-- ==== Sys2Proof/Word.lean ====
section
/-! DEFINITION. The word, byte and key types (00_scope.md R7, R9; 30_encoding.md R64). -/

namespace Sys2Proof

/-- A word: a 32-bit unsigned value, bit 0 the least significant (00_scope.md R9). -/
abbrev Word := BitVec 32

/-- The unit of the byte buffer (20_memory.md R41). -/
abbrev Byte := BitVec 8

/-- The decode key, W in bit 33, X in bit 32, IDX in bits 31:0 (30_encoding.md R64). -/
abbrev Key := BitVec 34

/-- A caller's byte buffer with all of its contents: the list's length is the buffer's capacity (`cap`, or `len` for a
write), element `k` is the byte at offset `k`, and no other offset exists (20_memory.md R40, R41).
DESIGN CHOICE, log entry 20: safe. -/
abbrev Buffer := List Byte

end Sys2Proof
end

