-- ==== Sys2Proof/Machine/RegFile.lean ====
section
/-! DEFINITION. The block's view of the emulated CPU's register file, as plain data (10_state.md R20, R25). The status word
and MPID_SOURCE stand in State beside it: PSR_WRITE_EFFECT acts on exactly this structure (41_write.md R107). -/

namespace Sys2Proof.Machine

/-- The nine named system/control fields, in the order of the indices 26 to 34 (10_state.md R25, 30_encoding.md R63). -/
inductive SysField where
  | pid | cpctl | mask | basemask | data | insn | fsr | mpid | elr
deriving DecidableEq, Repr

/-- The eight stored system fields, one word each; `MPID` has no storage (10_state.md R25, R26). `fsr` and `elr` are the
cells at the levels FSR_LEVEL and ELR_LEVEL, the only ones the block reaches (R27). -/
structure SysFields where
  pid      : Word
  cpctl    : Word
  mask     : Word
  basemask : Word
  data     : Word
  insn     : Word
  fsr      : Word
  elr      : Word
deriving DecidableEq, Repr, Inhabited

/-- `rf = (x[0..15], sys[...])` (41_write.md R107); `x[15]` is the emulated CPU's program counter (10_state.md R21). -/
structure RegFile where
  x   : Vector Word 16
  sys : SysFields
deriving DecidableEq, Repr, Inhabited

end Sys2Proof.Machine
end

