-- ==== Sys2Proof/Syntax.lean ====
section
/-! DEFINITION. The operations of the block, one constructor for each row of opcode_table.json (00_scope.md R3,
30_encoding.md R65). The byte buffer of an access is not part of the operation: it is passed by the caller. -/

namespace Sys2Proof

/-- The 34 operations. A constructor's operands are the fields its row of the operation map has: `n` the general
register, `k` the legacy slot `IDX - 16`, `idx` the undefined index itself (an integer, 92_eei_decisions.md D10), `e` the
new mode flag. The suffix `X` marks the row that the key bit X = 1 selects. -/
inductive Instr where
  /-- RD_GPR, R81 -/
  | rdGpr (n : Fin 16)
  /-- RD_FPX, R82 -/
  | rdFpx (k : Fin 8)
  /-- RD_FPX_X, R83 -/
  | rdFpxX (k : Fin 8)
  /-- RD_FPS, R84 -/
  | rdFps
  /-- RD_FPS_X, R85 -/
  | rdFpsX
  /-- RD_PSR, R86 -/
  | rdPsr
  /-- RD_PID, R87 -/
  | rdPid
  /-- RD_CPCTL, R88 -/
  | rdCpctl
  /-- RD_MASK, R89 -/
  | rdMask
  /-- RD_BASEMASK, R90 -/
  | rdBasemask
  /-- RD_DATA, R91 -/
  | rdData
  /-- RD_INSN, R92 -/
  | rdInsn
  /-- RD_FSR, R93 -/
  | rdFsr
  /-- RD_MPID, R94 -/
  | rdMpid
  /-- RD_ELR, R95 -/
  | rdElr
  /-- RD_UNK, R96 -/
  | rdUnk (idx : Int)
  /-- WR_GPR, R101 -/
  | wrGpr (n : Fin 16)
  /-- WR_PC, R102 -/
  | wrPc
  /-- WR_FPX, R103 -/
  | wrFpx (k : Fin 8)
  /-- WR_FPX_X, R104 -/
  | wrFpxX (k : Fin 8)
  /-- WR_FPS, R105 -/
  | wrFps
  /-- WR_FPS_X, R106 -/
  | wrFpsX
  /-- WR_PSR, R107 -/
  | wrPsr
  /-- WR_PID, R108 -/
  | wrPid
  /-- WR_CPCTL, R109 -/
  | wrCpctl
  /-- WR_MASK, R110 -/
  | wrMask
  /-- WR_BASEMASK, R111 -/
  | wrBasemask
  /-- WR_DATA, R112 -/
  | wrData
  /-- WR_INSN, R113 -/
  | wrInsn
  /-- WR_FSR, R114 -/
  | wrFsr
  /-- WR_MPID, R115 -/
  | wrMpid
  /-- WR_ELR, R116 -/
  | wrElr
  /-- WR_UNK, R117 -/
  | wrUnk (idx : Int)
  /-- SESSION_BEGIN, R130 -/
  | sessionBegin (e : Bool)
deriving DecidableEq, Repr

end Sys2Proof
end

