-- ==== Sys2Proof/WellFormed.lean ====
section
/-! DEFINITION. The operand constraints of opcode_table.json (its "constraint" fields; 30_encoding.md R65). -/

namespace Sys2Proof

/-- Some row's index, among 0 to 34 (30_encoding.md R60). -/
def definedIndex (idx : Int) : Bool := decide (0 ≤ idx ∧ idx ≤ 34)

/-- The constraints of the table: WR_GPR has `n != 15` (index 15 is WR_PC), RD_UNK and WR_UNK have
`IDX < 0 or IDX > 34`. The ranges of `n` and `k` are their types'. -/
def Instr.wellFormed : Instr → Bool
  | .wrGpr n => decide (n ≠ 15)
  | .rdUnk idx => !definedIndex idx
  | .wrUnk idx => !definedIndex idx
  | .rdGpr _ | .rdFpx _ | .rdFpxX _ | .rdFps | .rdFpsX | .rdPsr | .rdPid | .rdCpctl | .rdMask | .rdBasemask | .rdData | .rdInsn
  | .rdFsr | .rdMpid | .rdElr | .wrPc | .wrFpx _ | .wrFpxX _ | .wrFps | .wrFpsX | .wrPsr | .wrPid | .wrCpctl | .wrMask
  | .wrBasemask | .wrData | .wrInsn | .wrFsr | .wrMpid | .wrElr | .sessionBegin _ => true

/-- The index can be spelled in the decode key: it lies in the signed 32-bit range (30_encoding.md R64, D10). -/
def fitsKey (idx : Int) : Bool := decide (-2147483648 ≤ idx ∧ idx ≤ 2147483647)

/-- The operation has a spelling: only an undefined index outside the signed 32-bit range has none (30_encoding.md R64). -/
def Instr.encodable : Instr → Bool
  | .rdUnk idx => fitsKey idx
  | .wrUnk idx => fitsKey idx
  | .wrGpr _ | .rdGpr _ | .rdFpx _ | .rdFpxX _ | .rdFps | .rdFpsX | .rdPsr | .rdPid | .rdCpctl | .rdMask | .rdBasemask | .rdData | .rdInsn
  | .rdFsr | .rdMpid | .rdElr | .wrPc | .wrFpx _ | .wrFpxX _ | .wrFps | .wrFpsX | .wrPsr | .wrPid | .wrCpctl | .wrMask
  | .wrBasemask | .wrData | .wrInsn | .wrFsr | .wrMpid | .wrElr | .sessionBegin _ => true

end Sys2Proof
end

