-- ==== Sys2Proof/Decode.lean ====
section
/-! DEFINITION. The resolver (30_encoding.md R61, R63), the decode key (R64), the operation map as rows of match and mask
(R65), decoding from bytes, and the encoder. -/

namespace Sys2Proof

open Machine (SysField)

/-! ### The resolver -/

/-- The role an index resolves to (30_encoding.md R61). -/
inductive Role where
  | gpr (n : Fin 16)
  | legacyBlock (k : Fin 8)
  | legacyStatus
  | status
  | sys (f : SysField)
  | unknown
deriving DecidableEq, Repr

/-- SYS_FIELD_ORDER: the field that index `26 + k` selects (30_encoding.md R63, decision D2). -/
def sysFieldOrder : Fin 9 → SysField
  | 0 => .pid
  | 1 => .cpctl
  | 2 => .mask
  | 3 => .basemask
  | 4 => .data
  | 5 => .insn
  | 6 => .fsr
  | 7 => .mpid
  | 8 => .elr

/-- The resolver: a total function of the index alone (30_encoding.md R61, R62). -/
def resolve (idx : Int) : Role :=
  if 0 ≤ idx ∧ idx ≤ 15 then .gpr (Fin.ofNat 16 idx.toNat)
  else if 16 ≤ idx ∧ idx ≤ 23 then .legacyBlock (Fin.ofNat 8 (idx - 16).toNat)
  else if idx = 24 then .legacyStatus
  else if idx = 25 then .status
  else if 26 ≤ idx ∧ idx ≤ 34 then .sys (sysFieldOrder (Fin.ofNat 9 (idx - 26).toNat))
  else .unknown

/-- The operation on a system field. -/
def sysInstr (w : Bool) : SysField → Instr
  | .pid => if w then .wrPid else .rdPid
  | .cpctl => if w then .wrCpctl else .rdCpctl
  | .mask => if w then .wrMask else .rdMask
  | .basemask => if w then .wrBasemask else .rdBasemask
  | .data => if w then .wrData else .rdData
  | .insn => if w then .wrInsn else .rdInsn
  | .fsr => if w then .wrFsr else .rdFsr
  | .mpid => if w then .wrMpid else .rdMpid
  | .elr => if w then .wrElr else .rdElr

/-- The operation that a primitive (`w` false for read, true for write), the mode flag and a role select; `idx` is the
index, kept by the operations on an undefined one (40_read.md R80, 41_write.md R100: "from resolve(IDX) and ext"). -/
def roleInstr (w ext : Bool) (idx : Int) : Role → Instr
  | .gpr n => if w then (if n = 15 then .wrPc else .wrGpr n) else .rdGpr n
  | .legacyBlock k =>
    if w then (if ext then .wrFpxX k else .wrFpx k) else (if ext then .rdFpxX k else .rdFpx k)
  | .legacyStatus => if w then (if ext then .wrFpsX else .wrFps) else (if ext then .rdFpsX else .rdFps)
  | .status => if w then .wrPsr else .rdPsr
  | .sys f => sysInstr w f
  | .unknown => if w then .wrUnk idx else .rdUnk idx

/-! ### The decode key and the operation map -/

/-- `KEY = {W, X, IDX[31:0]}` (30_encoding.md R64). -/
def mkKey (w x : Bool) (idx : BitVec 32) : Key := BitVec.ofBool w ++ BitVec.ofBool x ++ idx

/-- One row of the operation map: the key's bits under `mask` are those of `pattern`, and the row's constraint holds. -/
structure KeyRow where
  pattern    : Key
  mask       : Key
  build      : Key → Instr
  constraint : Key → Bool := fun _ => true

/-- The key selects the row (30_encoding.md R65). -/
def KeyRow.selects (r : KeyRow) (k : Key) : Bool := (k &&& r.mask == r.pattern) && r.constraint k

/-- `n = IDX[3:0]` (30_encoding.md R65). -/
def keyGpr (k : Key) : Fin 16 := (k.extractLsb' 0 4).toFin

/-- `s = IDX[2:0]` (30_encoding.md R65). -/
def keySlot (k : Key) : Fin 8 := (k.extractLsb' 0 3).toFin

/-- IDX, the low 32 bits as two's complement (30_encoding.md R64). -/
def keyIndex (k : Key) : Int := (k.extractLsb' 0 32).toInt

/-- The read rows of the operation map but RD_UNK (30_encoding.md R65). -/
def readRows : List KeyRow := [
  { pattern := 0x000000000, mask := 0x2FFFFFFF0, build := fun k => .rdGpr (keyGpr k) },
  { pattern := 0x000000010, mask := 0x3FFFFFFF8, build := fun k => .rdFpx (keySlot k) },
  { pattern := 0x100000010, mask := 0x3FFFFFFF8, build := fun k => .rdFpxX (keySlot k) },
  { pattern := 0x000000018, mask := 0x3FFFFFFFF, build := fun _ => .rdFps },
  { pattern := 0x100000018, mask := 0x3FFFFFFFF, build := fun _ => .rdFpsX },
  { pattern := 0x000000019, mask := 0x2FFFFFFFF, build := fun _ => .rdPsr },
  { pattern := 0x00000001A, mask := 0x2FFFFFFFF, build := fun _ => .rdPid },
  { pattern := 0x00000001B, mask := 0x2FFFFFFFF, build := fun _ => .rdCpctl },
  { pattern := 0x00000001C, mask := 0x2FFFFFFFF, build := fun _ => .rdMask },
  { pattern := 0x00000001D, mask := 0x2FFFFFFFF, build := fun _ => .rdBasemask },
  { pattern := 0x00000001E, mask := 0x2FFFFFFFF, build := fun _ => .rdData },
  { pattern := 0x00000001F, mask := 0x2FFFFFFFF, build := fun _ => .rdInsn },
  { pattern := 0x000000020, mask := 0x2FFFFFFFF, build := fun _ => .rdFsr },
  { pattern := 0x000000021, mask := 0x2FFFFFFFF, build := fun _ => .rdMpid },
  { pattern := 0x000000022, mask := 0x2FFFFFFFF, build := fun _ => .rdElr }]

/-- The write rows of the operation map but WR_UNK; WR_GPR has the constraint `n ≠ 15` (30_encoding.md R65). -/
def writeRows : List KeyRow := [
  { pattern := 0x200000000, mask := 0x2FFFFFFF0, build := fun k => .wrGpr (keyGpr k),
    constraint := fun k => decide (keyGpr k ≠ 15) },
  { pattern := 0x20000000F, mask := 0x2FFFFFFFF, build := fun _ => .wrPc },
  { pattern := 0x200000010, mask := 0x3FFFFFFF8, build := fun k => .wrFpx (keySlot k) },
  { pattern := 0x300000010, mask := 0x3FFFFFFF8, build := fun k => .wrFpxX (keySlot k) },
  { pattern := 0x200000018, mask := 0x3FFFFFFFF, build := fun _ => .wrFps },
  { pattern := 0x300000018, mask := 0x3FFFFFFFF, build := fun _ => .wrFpsX },
  { pattern := 0x200000019, mask := 0x2FFFFFFFF, build := fun _ => .wrPsr },
  { pattern := 0x20000001A, mask := 0x2FFFFFFFF, build := fun _ => .wrPid },
  { pattern := 0x20000001B, mask := 0x2FFFFFFFF, build := fun _ => .wrCpctl },
  { pattern := 0x20000001C, mask := 0x2FFFFFFFF, build := fun _ => .wrMask },
  { pattern := 0x20000001D, mask := 0x2FFFFFFFF, build := fun _ => .wrBasemask },
  { pattern := 0x20000001E, mask := 0x2FFFFFFFF, build := fun _ => .wrData },
  { pattern := 0x20000001F, mask := 0x2FFFFFFFF, build := fun _ => .wrInsn },
  { pattern := 0x200000020, mask := 0x2FFFFFFFF, build := fun _ => .wrFsr },
  { pattern := 0x200000021, mask := 0x2FFFFFFFF, build := fun _ => .wrMpid },
  { pattern := 0x200000022, mask := 0x2FFFFFFFF, build := fun _ => .wrElr }]

/-- RD_UNK and WR_UNK, matched when no other row is (30_encoding.md R65: every other row is matched first): their masks
test bit W alone. -/
def unknownInstr (k : Key) : Instr :=
  if k &&& 0x200000000 = 0x200000000 then .wrUnk (keyIndex k) else .rdUnk (keyIndex k)

/-- The one operation a decode key selects (30_encoding.md R65). Total: no key is illegal (R67). -/
def decodeKey (k : Key) : Instr :=
  match (readRows ++ writeRows).find? (fun r => r.selects k) with
  | some r => r.build k
  | none => unknownInstr k

/-- The operation of a request: by its decode key when the key can spell the index, else from the integer itself, which
is then unknown (40_read.md R80, 41_write.md R100, 30_encoding.md R64, D10). -/
def selectInstr (w ext : Bool) (idx : Int) : Instr :=
  if fitsKey idx then decodeKey (mkKey w ext (BitVec.ofInt 32 idx)) else roleInstr w ext idx (resolve idx)

/-! ### Bytes

The spec lays no key out in bytes. DESIGN CHOICE, log entry 15 (safe): a KEY34 operation is its key in five bytes, bits 7:0
first, the six bits above the key 0; a SESSION operation is one byte, its bit 0 the operand `e`, its other bits 0. -/

/-- Why a byte string spells no operation. -/
inductive DecodeError where
  /-- neither one byte nor five -/
  | badLength
  /-- a bit above the 34 of the key is set -/
  | keyTooWide
  /-- a bit of a SESSION byte above bit 0 is set -/
  | sessionTooWide
deriving DecidableEq, Repr

/-- Decode a byte string: total, and rejecting by name. -/
def decodeBytes : List Byte → Except DecodeError Instr
  | [b] => if b = 0 then .ok (.sessionBegin false) else if b = 1 then .ok (.sessionBegin true) else .error .sessionTooWide
  | [b0, b1, b2, b3, b4] =>
    if b4.extractLsb' 2 6 = 0#6 then .ok (decodeKey (b4.extractLsb' 0 2 ++ b3 ++ b2 ++ b1 ++ b0)) else .error .keyTooWide
  | _ => .error .badLength

/-- The low `n` bytes of a number, the least significant first. -/
def natBytes : Nat → Nat → List Byte
  | 0, _ => []
  | n + 1, w => BitVec.ofNat 8 w :: natBytes n (w / 256)

/-- The table's format SESSION has one bit, so at most one byte; every other row has the 34 bits of a key (entry 15). -/
def isSessionSize (nbits : Nat) : Bool := decide (1 ≤ nbits ∧ nbits ≤ 8)

/-- What the decoder reads from an instruction whose bits are `w`, numbered as opcode_table.json numbers them. -/
def decodeTableWord (nbits w : Nat) : Option Instr :=
  if isSessionSize nbits then (if w < 256 then (decodeBytes (natBytes 1 w)).toOption else none)
  else if w < 1099511627776 then (decodeBytes (natBytes 5 w)).toOption else none

/-! ### The encoder -/

/-- Bit W of the operation's rows: the write primitive (30_encoding.md R65). -/
def Instr.isWrite : Instr → Bool
  | .wrGpr _ | .wrPc | .wrFpx _ | .wrFpxX _ | .wrFps | .wrFpsX | .wrPsr | .wrPid | .wrCpctl | .wrMask | .wrBasemask
  | .wrData | .wrInsn | .wrFsr | .wrMpid | .wrElr | .wrUnk _ => true
  | .rdGpr _ | .rdFpx _ | .rdFpxX _ | .rdFps | .rdFpsX | .rdPsr | .rdPid | .rdCpctl | .rdMask | .rdBasemask | .rdData
  | .rdInsn | .rdFsr | .rdMpid | .rdElr | .rdUnk _ | .sessionBegin _ => false

/-- Bit X of the operation's row where the row fixes it; `none` where the map has "-" (30_encoding.md R65). -/
def Instr.modeBit : Instr → Option Bool
  | .rdFpx _ | .rdFps | .wrFpx _ | .wrFps => some false
  | .rdFpxX _ | .rdFpsX | .wrFpxX _ | .wrFpsX => some true
  | .rdGpr _ | .rdPsr | .rdPid | .rdCpctl | .rdMask | .rdBasemask | .rdData | .rdInsn | .rdFsr | .rdMpid | .rdElr | .rdUnk _
  | .wrGpr _ | .wrPc | .wrPsr | .wrPid | .wrCpctl | .wrMask | .wrBasemask | .wrData | .wrInsn | .wrFsr | .wrMpid | .wrElr
  | .wrUnk _ | .sessionBegin _ => none

/-- The operation's register index, column IDX of 30_encoding.md R65; SESSION_BEGIN is no register access and has none
(42_session.md R130). -/
def Instr.index : Instr → Option Int
  | .rdGpr n | .wrGpr n => some n.val
  | .wrPc => some 15
  | .rdFpx k | .rdFpxX k | .wrFpx k | .wrFpxX k => some (16 + k.val)
  | .rdFps | .rdFpsX | .wrFps | .wrFpsX => some 24
  | .rdPsr | .wrPsr => some 25
  | .rdPid | .wrPid => some 26
  | .rdCpctl | .wrCpctl => some 27
  | .rdMask | .wrMask => some 28
  | .rdBasemask | .wrBasemask => some 29
  | .rdData | .wrData => some 30
  | .rdInsn | .wrInsn => some 31
  | .rdFsr | .wrFsr => some 32
  | .rdMpid | .wrMpid => some 33
  | .rdElr | .wrElr => some 34
  | .rdUnk idx | .wrUnk idx => some idx
  | .sessionBegin _ => none

/-- The read primitive: a register access that is no write. -/
def Instr.isRead (i : Instr) : Bool := i.index.isSome && !i.isWrite

/-- The decode key of a register access, written from the columns W, X and IDX of 30_encoding.md R65; `x` is the mode flag,
for the rows that ignore it. SESSION_BEGIN has no key (42_session.md R130). -/
def encodeKey (x : Bool) (i : Instr) : Option Key :=
  i.index.map fun idx => mkKey i.isWrite (i.modeBit.getD x) (BitVec.ofInt 32 idx)

/-- A key's five bytes (log entry 15). -/
def keyBytes (k : Key) : List Byte := natBytes 5 k.toNat

/-- The bytes of an operation (log entry 15). -/
def encode (x : Bool) (i : Instr) : List Byte :=
  match encodeKey x i with
  | some k => keyBytes k
  | none => [if i = .sessionBegin true then 1 else 0]

end Sys2Proof
end

