-- ==== Sys2Proof/Config.lean ====
section
/-! DEFINITION. The implementation parameters of 00_scope.md R7 and R8: those the spec fixes have their value; those it
leaves open are opaque constants, of which nothing can be proved but that they exist. -/

namespace Sys2Proof.Config

/-- READ_BUF_MIN: the least capacity of a read buffer (00_scope.md R7). -/
def readBufMin : Nat := 12

/-- WRITE_BUF_MIN: the least number of valid bytes of a write buffer (00_scope.md R7). -/
def writeBufMin : Nat := 4

/-- IDX_MAX: the last defined index (00_scope.md R7). -/
def idxMax : Nat := 34

/-- EXT_INIT: the mode flag before the first session operation (00_scope.md R8, 92_eei_decisions.md D8). -/
def extInit : Bool := false

/-- PSR_RESERVED_MASK, open (00_scope.md R8, D5): the bits of the status word that do not survive a write.
Free value, log entry 4: safe, since nothing can be proved of it. -/
opaque psrReservedMask : Word

/-- PSR_WRITE_EFFECT, open (00_scope.md R8, D6): what applying a status word does to the register file. Its type keeps it
from `ext`, `faulted`, MPID_SOURCE and `psr`, as 41_write.md R107 demands. Free value, log entry 4: safe. -/
opaque psrWriteEffect : Machine.RegFile → Word → Machine.RegFile

/-- MPID_COMPOSE, open (00_scope.md R8, D7): the index-33 value computed from MPID_SOURCE. Free value, log entry 4: safe.
That MPID_SOURCE is a natural number is log entry 2. -/
opaque mpidCompose : Nat → Word

/-- The names of the emulated CPU's privilege levels, which the spec does not list: numbered (log entry 5). -/
abbrev PrivilegeLevel := Nat

/-- FSR_LEVEL, open (00_scope.md R8, D3): the level whose fault-status cell index 32 reaches. The model holds that one cell
(10_state.md R27), so no definition depends on which level it is. Log entry 5: safe. -/
opaque fsrLevel : PrivilegeLevel

/-- ELR_LEVEL, open (00_scope.md R8, D3): the level whose exception-link cell index 34 reaches; as `fsrLevel`. -/
opaque elrLevel : PrivilegeLevel

end Sys2Proof.Config
end

