-- ==== Sys2Proof/Machine/State.lean ====
section
/-! DEFINITION. The state of the block and of its interface, as plain data (10_state.md, 60_exceptions.md R142, R143, R154),
and the state after reset (10_state.md R33, 70_reset_and_hazards.md R160). -/

namespace Sys2Proof.Machine

/-- Why the machine stops. -/
inductive Fault where
  /-- Raised by every operation while `faulted` is set: "no step" (10_state.md R30, 60_exceptions.md R144 check 1, R146).
  Safe: nothing can be concluded about a later access (log entry 8). -/
  | quiescent
deriving DecidableEq, Repr

/-- Why an operation has no meaning. -/
inductive Refusal where
  /-- Raised by an arm of `exec` whose operation has no meaning yet; no arm is left so. Safe. -/
  | notModelled (mnemonic : String)
deriving DecidableEq, Repr

/-- The two model faults with the info they record (60_exceptions.md R142). -/
inductive ModelFault where
  /-- code 1: a read with capacity `cap` < 12 at index `idx` -/
  | readBufferSmall (cap : Nat) (idx : Int)
  /-- code 2: a write of `len` < 4 bytes at index `idx` -/
  | writeBufferShort (len : Nat) (idx : Int)
deriving DecidableEq, Repr

/-- A request of the host: the two primitives with the index and the caller's buffer (30_encoding.md R64, 20_memory.md
R41), and the session operation (42_session.md R130). -/
inductive Request where
  | read (idx : Int) (rbuf : Buffer)
  | write (idx : Int) (wbuf : Buffer)
  | session (e : Bool)
deriving DecidableEq, Repr

/-- A response: LEN, and RBUF' for a read (30_encoding.md R64). SESSION_BEGIN returns nothing (42_session.md R130). -/
inductive Response where
  | read (len : Nat) (rbuf : Buffer)
  | write (len : Nat)
deriving DecidableEq, Repr

/-- What happens outside the block between two accesses (60_exceptions.md R143, R151; 70_reset_and_hazards.md R160, R161,
R164). Log entries 11 to 14. -/
inductive EnvEvent where
  /-- the debug-session controller halts the CPU (60_exceptions.md R143) -/
  | haltCpu
  /-- the halt ends (20_memory.md R53) -/
  | resumeCpu
  /-- the CPU, running, leaves the register file at `rf` and the status word at `p` (70_reset_and_hazards.md R164) -/
  | cpuRuns (rf : RegFile) (p : Word)
  /-- a reset of the CPU leaves them so (70_reset_and_hazards.md R161) -/
  | cpuReset (rf : RegFile) (p : Word)
  /-- another instance of the process begins a session: `ext` is shared (60_exceptions.md R151) -/
  | peerSession (e : Bool)
  /-- a reset of the block (70_reset_and_hazards.md R160) -/
  | resetBlock
deriving DecidableEq, Repr

/-- Whose turn a step is: the block's, to serve the host's first request, or the environment's (log entry 11). -/
inductive Turn where
  | serve
  | env (e : EnvEvent)
deriving DecidableEq, Repr

/-- The machine. The last four fields are the interface, not storage of the block (10_state.md R31; log entries 6, 11, 24). -/
structure State where
  /-- `x[0..15]` and the eight stored system fields (10_state.md R20, R21, R25) -/
  rf         : RegFile
  /-- the status word (10_state.md R23) -/
  psr        : Word
  /-- MPID_SOURCE, which nothing the block does changes (10_state.md R26; log entry 2) -/
  mpidSource : Nat
  /-- the Extended-Description Mode flag (10_state.md R28) -/
  ext        : Bool
  /-- the model's sticky fault mark (10_state.md R30) -/
  faulted    : Bool
  /-- what the model fault recorded (60_exceptions.md R142; log entry 7) -/
  faultInfo  : Option ModelFault
  /-- the CPU execution core is halted (60_exceptions.md R143; log entry 3) -/
  cpuHalted  : Bool
  /-- the host's requests that have not ended, oldest first (20_memory.md R50) -/
  requests   : List Request
  /-- the responses given, newest first (30_encoding.md R64) -/
  responses  : List Response
  /-- the request that ended last ended with a model fault, so it has had no response (60_exceptions.md R142,
  70_reset_and_hazards.md R168; log entry 24) -/
  unanswered : Bool
  /-- whose turn the next steps are; empty: the block's (log entry 11) -/
  schedule   : List Turn
deriving DecidableEq, Repr

/-- The machine right after reset. `ext` and `faulted` are the spec's (10_state.md R33, 70_reset_and_hazards.md R160); the
register file, `psr` and MPID_SOURCE, "unspecified" there, are 0: DESIGN CHOICE, log entries 1 and 2, unsafe; the CPU is not
halted: DESIGN CHOICE, log entry 3, unsafe; nothing is requested, answered, unanswered or scheduled (log entries 6, 11, 24). -/
def State.reset : State where
  rf         := { x := Vector.replicate 16 0, sys := ⟨0, 0, 0, 0, 0, 0, 0, 0⟩ }
  psr        := 0
  mpidSource := 0
  ext        := Config.extInit
  faulted    := false
  faultInfo  := none
  cpuHalted  := false
  requests   := []
  responses  := []
  unanswered := false
  schedule   := []

end Sys2Proof.Machine
end

