-- ==== Sys2Proof/Machine/Ops.lean ====
section
/-! DEFINITION. The named operations over the buffer, the registers and the interface: the serializer and deserializer
(20_memory.md R42, R43), the common entries of reads and writes (40_read.md R80, 41_write.md R100), raising a model fault
(60_exceptions.md R142), responding, and what the environment does between accesses. -/

namespace Sys2Proof.Machine

/-- The outcomes of this machine. -/
abbrev Result := Host.Outcome State Fault Refusal

/-! ### The byte buffer -/

/-- `MemWrite(k, 4, v)`: the bytes of `v` to offsets `k` to `k+3`, the least significant byte at the lowest (20_memory.md
R42; R45: no other offset). -/
def memWrite (k : Nat) (v : Word) (buf : Buffer) : Buffer :=
  (((buf.set k (v.extractLsb' 0 8)).set (k + 1) (v.extractLsb' 8 8)).set (k + 2) (v.extractLsb' 16 8)).set (k + 3)
    (v.extractLsb' 24 8)

/-- `MemRead(0, 4)`: the word `{b[3], b[2], b[1], b[0]}` of the first four bytes (20_memory.md R43); `none` when the buffer
holds fewer than WRITE_BUF_MIN bytes. Bytes at offsets 4 and up are not read (R46). -/
def memRead : Buffer → Option Word
  | b0 :: b1 :: b2 :: b3 :: _ => some (b3 ++ b2 ++ b1 ++ b0)
  | _ => none

/-! ### The general registers and the mode flag -/

/-- `x[n]` (00_scope.md R10). -/
def State.readX (n : Fin 16) (s : State) : Word := s.rf.x[n]

/-- `x[n] <- v`, verbatim: no general register is hardwired (00_scope.md R10, 10_state.md R20). -/
def State.writeX (n : Fin 16) (v : Word) (s : State) : State :=
  { s with rf := { s.rf with x := s.rf.x.set n v } }

/-- `rf <- rf'`, all of the register file at once (41_write.md R107). -/
def State.setRf (rf : RegFile) (s : State) : State := { s with rf := rf }

/-- `ext <- e` (42_session.md R130). -/
def State.setExt (e : Bool) (s : State) : State := { s with ext := e }

/-! ### The interface -/

/-- The caller's read buffer: that of the request being served; no buffer is passed where that is no read, and its
capacity is then 0 (20_memory.md R41; log entry 17). -/
def State.rbuf (s : State) : Buffer :=
  match s.requests with
  | .read _ b :: _ => b
  | _ => []

/-- The caller's write bytes, likewise. -/
def State.wbuf (s : State) : Buffer :=
  match s.requests with
  | .write _ b :: _ => b
  | _ => []

/-- The request being served has ended with nothing owed to the host: SESSION_BEGIN returns nothing (42_session.md R130; log
entry 24). -/
def State.retire (s : State) : State := { s with requests := s.requests.tail, unanswered := false }

/-- `respond`: the access ends and the host gets its response (40_read.md R80, 41_write.md R100). -/
def State.respond (r : Response) (s : State) : State :=
  { s with requests := s.requests.tail, responses := r :: s.responses, unanswered := false }

/-- `raise`: the access ends with a model fault, which sets `faulted`, records its info, writes nothing else and gives no
response, so the request stays unanswered (60_exceptions.md R142, 00_scope.md R11; log entries 7, 24). -/
def State.raise (f : ModelFault) (s : State) : State :=
  { s with faulted := true, faultInfo := some f, requests := s.requests.tail, unanswered := true }

/-- The code of a model fault (60_exceptions.md R142). -/
def ModelFault.code : ModelFault → Nat
  | .readBufferSmall _ _ => 1
  | .writeBufferShort _ _ => 2

/-! ### The common entries -/

/-- The first two checks of every request (60_exceptions.md R144): a faulted state takes no step (10_state.md R30; log entry
8), and while the CPU is not halted the request is held, which sets nothing (60_exceptions.md R143; log entry 9). -/
def gate (s : State) (k : Result) : Result :=
  if s.faulted then .fault .quiescent else if s.cpuHalted then k else .next s

/-- The common read entry (40_read.md R80): the gate, the capacity check, then the operation `op`, which writes the buffer
and returns LEN. -/
def readAccess (idx : Int) (op : Buffer → Buffer × Nat) (s : State) : Result :=
  gate s <|
    if s.rbuf.length < Config.readBufMin then .next (s.raise (.readBufferSmall s.rbuf.length idx))
    else .next (s.respond (.read (op s.rbuf).2 (op s.rbuf).1))

/-- The common write entry (41_write.md R100): the gate, the length check, `V <- MemRead(0, 4)`, then the operation `op`,
which writes at most one location and returns LEN. -/
def writeAccess (idx : Int) (op : Word → State → State × Nat) (s : State) : Result :=
  gate s <|
    match memRead s.wbuf with
    | none => .next (s.raise (.writeBufferShort s.wbuf.length idx))
    | some v => .next ((op v s).1.respond (.write (op v s).2))

/-! ### The request being served and the environment -/

/-- The operation of a request (30_encoding.md R64, R65; 42_session.md R130), `ext` as it is when the request is served. -/
def Request.instr (ext : Bool) : Request → Instr
  | .read idx _ => selectInstr false ext idx
  | .write idx _ => selectInstr true ext idx
  | .session e => .sessionBegin e

/-- The schedule moves on. -/
def State.setSchedule (l : List Turn) (s : State) : State := { s with schedule := l }

/-- The CPU's own change of the register file and the status word, of which the block sees the reserved bits as 0
(10_state.md R23, R33; log entry 12). -/
def State.cpuStores (rf : RegFile) (p : Word) (s : State) : State :=
  { s with rf := rf, psr := p &&& ~~~Config.psrReservedMask }

/-- A reset of the block: `ext` and `faulted` as at reset, the register file untouched (70_reset_and_hazards.md R160). The
recorded info goes with `faulted`; the interface stays, and a request left unanswered stays so (log entries 13, 24). -/
def State.resetBlock (s : State) : State :=
  { s with ext := Config.extInit, faulted := false, faultInfo := none }

/-- What an environment event does (log entries 11 to 14). A running CPU is the only one that stores (20_memory.md R52). -/
def State.applyEnv (e : EnvEvent) (s : State) : State :=
  match e with
  | .haltCpu => { s with cpuHalted := true }
  | .resumeCpu => { s with cpuHalted := false }
  | .cpuRuns rf p => if s.cpuHalted then s else s.cpuStores rf p
  | .cpuReset rf p => s.cpuStores rf p
  | .peerSession b => s.setExt b
  | .resetBlock => s.resetBlock

/-! ### Placing one request (for State.withFetchWord; log entry 15) -/

/-- The request whose key has the bits `w` (`nbits` as in `decodeTableWord`): a read passes twelve zero bytes, a write
four. -/
def tableRequest (nbits w : Nat) : Request :=
  if isSessionSize nbits then .session (w.testBit 0)
  else if w.testBit 33 then .write (BitVec.ofNat 32 w).toInt (List.replicate 4 0)
  else .read (BitVec.ofNat 32 w).toInt (List.replicate 12 0)

/-- The mode flag the key's bit X asks for; a SESSION operation asks for none. -/
def tableExt (nbits w : Nat) (ext : Bool) : Bool := if isSessionSize nbits then ext else w.testBit 32

/-- The request stands first, the next turn is the block's, the CPU is halted, nothing is faulted and `ext` is the key's bit
X: all that the very next step needs to perform the request, and nothing else changed. -/
def State.place (r : Request) (ext : Bool) (s : State) : State :=
  { s with
    requests := r :: s.requests, schedule := .serve :: s.schedule, cpuHalted := true, faulted := false, faultInfo := none,
    ext := ext }

end Sys2Proof.Machine
end

