-- ==== Sys2Proof/Machine/Operands.lean ====
section
/-! DEFINITION. The operand forms: reading and writing a system field (10_state.md R25, R26), and the locations an
operation names. -/

namespace Sys2Proof.Machine

/-- `sys[f]` (00_scope.md R10). `sys[MPID]` is computed from MPID_SOURCE at each read (10_state.md R26). -/
def State.readSys (f : SysField) (s : State) : Word :=
  match f with
  | .pid => s.rf.sys.pid
  | .cpctl => s.rf.sys.cpctl
  | .mask => s.rf.sys.mask
  | .basemask => s.rf.sys.basemask
  | .data => s.rf.sys.data
  | .insn => s.rf.sys.insn
  | .fsr => s.rf.sys.fsr
  | .mpid => Config.mpidCompose s.mpidSource
  | .elr => s.rf.sys.elr

/-- The stored fields with `sys[f] <- v`, verbatim (10_state.md R25, D4); MPID has no storage, so nothing is written
(R26). -/
def SysFields.write (f : SysField) (v : Word) (r : SysFields) : SysFields :=
  match f with
  | .pid => { r with pid := v }
  | .cpctl => { r with cpctl := v }
  | .mask => { r with mask := v }
  | .basemask => { r with basemask := v }
  | .data => { r with data := v }
  | .insn => { r with insn := v }
  | .fsr => { r with fsr := v }
  | .mpid => r
  | .elr => { r with elr := v }

/-- `sys[f] <- v` (00_scope.md R10). -/
def State.writeSys (f : SysField) (v : Word) (s : State) : State :=
  { s with rf := { s.rf with sys := s.rf.sys.write f v } }

end Sys2Proof.Machine
end

