-- ==== Sys2Proof/Machine/Flags.lean ====
section
/-! DEFINITION. The status word. The block has no flags of its own and no operation sets one as a side effect (10_state.md
R32); the processor's flag bits live in `psr`, which is read and written as one uninterpreted word (R23). -/

namespace Sys2Proof.Machine

/-- The word a status write stores: `V & ~PSR_RESERVED_MASK` (41_write.md R107, decision D5). -/
def psrApplied (v : Word) : Word := v &&& ~~~Config.psrReservedMask

/-- `psr <- v` (00_scope.md R10). -/
def State.setPsr (v : Word) (s : State) : State := { s with psr := v }

/-- Applying a status word: first its effect on the register file, then the word itself (41_write.md R107). -/
def State.applyPsr (v : Word) (s : State) : State :=
  (s.setRf (Config.psrWriteEffect s.rf v)).setPsr (psrApplied v)

end Sys2Proof.Machine
end

