-- ==== Sys2Proof/Machine/Read.lean ====
section
/-! DEFINITION. The read operations, one meaning for each read row of the operation map (40_read.md R81 to R96), each over
the common read entry (R80). -/

namespace Sys2Proof.Machine

/-- `MemWrite(0, 4, v); return 4`. -/
def emitWord (v : Word) (buf : Buffer) : Buffer × Nat := (memWrite 0 v buf, 4)

/-- Three zero words at offsets 0, 4 and 8; `return 12` (40_read.md R82). -/
def emitPlaceholder (buf : Buffer) : Buffer × Nat := (memWrite 8 0 (memWrite 4 0 (memWrite 0 0 buf)), 12)

/-- `return 0`: no buffer byte is written. -/
def emitNothing (buf : Buffer) : Buffer × Nat := (buf, 0)

/-- RD_GPR: read a general register, the program counter included (40_read.md R81). -/
def execRdGpr (n : Fin 16) (s : State) : Result := readAccess n.val (emitWord (s.readX n)) s

/-- RD_FPX: a legacy placeholder slot in legacy mode, twelve zero bytes (40_read.md R82). -/
def execRdFpx (k : Fin 8) (s : State) : Result := readAccess (16 + k.val) emitPlaceholder s

/-- RD_FPX_X: a legacy placeholder slot in extended-description mode, absent (40_read.md R83). -/
def execRdFpxX (k : Fin 8) (s : State) : Result := readAccess (16 + k.val) emitNothing s

/-- RD_FPS: the legacy status placeholder in legacy mode, the word 0 (40_read.md R84). -/
def execRdFps (s : State) : Result := readAccess 24 (emitWord 0) s

/-- RD_FPS_X: the legacy status placeholder in extended-description mode, absent (40_read.md R85). -/
def execRdFpsX (s : State) : Result := readAccess 24 emitNothing s

/-- RD_PSR: read the status word (40_read.md R86). -/
def execRdPsr (s : State) : Result := readAccess 25 (emitWord s.psr) s

/-- RD_PID: read `sys[PID]` (40_read.md R87). -/
def execRdPid (s : State) : Result := readAccess 26 (emitWord (s.readSys .pid)) s

/-- RD_CPCTL: read `sys[CPCTL]` (40_read.md R88). -/
def execRdCpctl (s : State) : Result := readAccess 27 (emitWord (s.readSys .cpctl)) s

/-- RD_MASK: read `sys[MASK]` (40_read.md R89). -/
def execRdMask (s : State) : Result := readAccess 28 (emitWord (s.readSys .mask)) s

/-- RD_BASEMASK: read `sys[BASEMASK]` (40_read.md R90). -/
def execRdBasemask (s : State) : Result := readAccess 29 (emitWord (s.readSys .basemask)) s

/-- RD_DATA: read `sys[DATA]` (40_read.md R91). -/
def execRdData (s : State) : Result := readAccess 30 (emitWord (s.readSys .data)) s

/-- RD_INSN: read `sys[INSN]` (40_read.md R92). -/
def execRdInsn (s : State) : Result := readAccess 31 (emitWord (s.readSys .insn)) s

/-- RD_FSR: read `sys[FSR]` (40_read.md R93). -/
def execRdFsr (s : State) : Result := readAccess 32 (emitWord (s.readSys .fsr)) s

/-- RD_MPID: read `sys[MPID]`, computed at the read (40_read.md R94). -/
def execRdMpid (s : State) : Result := readAccess 33 (emitWord (s.readSys .mpid)) s

/-- RD_ELR: read `sys[ELR]` (40_read.md R95). -/
def execRdElr (s : State) : Result := readAccess 34 (emitWord (s.readSys .elr)) s

/-- RD_UNK: an undefined index (40_read.md R96). -/
def execRdUnk (idx : Int) (s : State) : Result := readAccess idx emitNothing s

end Sys2Proof.Machine
end

