-- ==== Sys2Proof/Machine/Session.lean ====
section
/-! DEFINITION. The session operation (42_session.md R130). -/

namespace Sys2Proof.Machine

/-- SESSION_BEGIN: `ext <- e` behind the gate of every request; no response, no other change (42_session.md R130). -/
def execSessionBegin (e : Bool) (s : State) : Result := gate s (.next (s.setExt e).retire)

end Sys2Proof.Machine
end

