-- ==== Sys2Proof/Machine/Write.lean ====
section
/-! DEFINITION. The write operations, one meaning for each write row of the operation map (41_write.md R101 to R117), each
over the common write entry (R100). -/

namespace Sys2Proof.Machine

/-- `return n`: the value is discarded and nothing is written. -/
def discard (n : Nat) (_ : Word) (s : State) : State × Nat := (s, n)

/-- `V & 0xFFFFFFFE`: the program counter's bit 0 is cleared and no other (41_write.md R102, 10_state.md R21). -/
def pcValue (v : Word) : Word := v &&& 0xFFFFFFFE

/-- WR_GPR: write a general register other than the program counter, verbatim (41_write.md R101). -/
def execWrGpr (n : Fin 16) (s : State) : Result := writeAccess n.val (fun v t => (t.writeX n v, 4)) s

/-- WR_PC: write the program counter, bit 0 cleared (41_write.md R102). -/
def execWrPc (s : State) : Result := writeAccess 15 (fun v t => (t.writeX 15 (pcValue v), 4)) s

/-- WR_FPX: a legacy placeholder slot in legacy mode; 12 is acknowledged, the payload discarded (41_write.md R103). -/
def execWrFpx (k : Fin 8) (s : State) : Result := writeAccess (16 + k.val) (discard 12) s

/-- WR_FPX_X: a legacy placeholder slot in extended-description mode, absent (41_write.md R104). -/
def execWrFpxX (k : Fin 8) (s : State) : Result := writeAccess (16 + k.val) (discard 0) s

/-- WR_FPS: the legacy status placeholder in legacy mode; the value is discarded (41_write.md R105). -/
def execWrFps (s : State) : Result := writeAccess 24 (discard 4) s

/-- WR_FPS_X: the legacy status placeholder in extended-description mode, absent (41_write.md R106). -/
def execWrFpsX (s : State) : Result := writeAccess 24 (discard 0) s

/-- WR_PSR: apply a status word, all bits that are not reserved, with no field protection (41_write.md R107). -/
def execWrPsr (s : State) : Result := writeAccess 25 (fun v t => (t.applyPsr v, 4)) s

/-- WR_PID: `sys[PID] <- V`, verbatim (41_write.md R108). -/
def execWrPid (s : State) : Result := writeAccess 26 (fun v t => (t.writeSys .pid v, 4)) s

/-- WR_CPCTL: `sys[CPCTL] <- V`, verbatim (41_write.md R109). -/
def execWrCpctl (s : State) : Result := writeAccess 27 (fun v t => (t.writeSys .cpctl v, 4)) s

/-- WR_MASK: `sys[MASK] <- V`, verbatim (41_write.md R110). -/
def execWrMask (s : State) : Result := writeAccess 28 (fun v t => (t.writeSys .mask v, 4)) s

/-- WR_BASEMASK: `sys[BASEMASK] <- V`, verbatim (41_write.md R111). -/
def execWrBasemask (s : State) : Result := writeAccess 29 (fun v t => (t.writeSys .basemask v, 4)) s

/-- WR_DATA: `sys[DATA] <- V`, verbatim (41_write.md R112). -/
def execWrData (s : State) : Result := writeAccess 30 (fun v t => (t.writeSys .data v, 4)) s

/-- WR_INSN: `sys[INSN] <- V`, verbatim (41_write.md R113). -/
def execWrInsn (s : State) : Result := writeAccess 31 (fun v t => (t.writeSys .insn v, 4)) s

/-- WR_FSR: `sys[FSR] <- V`, verbatim (41_write.md R114). -/
def execWrFsr (s : State) : Result := writeAccess 32 (fun v t => (t.writeSys .fsr v, 4)) s

/-- WR_MPID: the read-only field; the write is rejected as LEN 0 and nothing is stored (41_write.md R115). -/
def execWrMpid (s : State) : Result := writeAccess 33 (discard 0) s

/-- WR_ELR: `sys[ELR] <- V`, verbatim (41_write.md R116). -/
def execWrElr (s : State) : Result := writeAccess 34 (fun v t => (t.writeSys .elr v, 4)) s

/-- WR_UNK: an undefined index (41_write.md R117). -/
def execWrUnk (idx : Int) (s : State) : Result := writeAccess idx (discard 0) s

end Sys2Proof.Machine
end

