-- ==== Sys2Proof/Machine/Dispatch.lean ====
section
/-! DEFINITION. The dispatch from an operation to its meaning, one arm for each row of opcode_table.json. -/

namespace Sys2Proof.Machine

def exec (i : Instr) (s : State) : Host.Outcome State Fault Refusal :=
  match i with
  | .rdGpr n => Sys2Proof.Machine.execRdGpr n s
  | .rdFpx k => Sys2Proof.Machine.execRdFpx k s
  | .rdFpxX k => Sys2Proof.Machine.execRdFpxX k s
  | .rdFps => Sys2Proof.Machine.execRdFps s
  | .rdFpsX => Sys2Proof.Machine.execRdFpsX s
  | .rdPsr => Sys2Proof.Machine.execRdPsr s
  | .rdPid => Sys2Proof.Machine.execRdPid s
  | .rdCpctl => Sys2Proof.Machine.execRdCpctl s
  | .rdMask => Sys2Proof.Machine.execRdMask s
  | .rdBasemask => Sys2Proof.Machine.execRdBasemask s
  | .rdData => Sys2Proof.Machine.execRdData s
  | .rdInsn => Sys2Proof.Machine.execRdInsn s
  | .rdFsr => Sys2Proof.Machine.execRdFsr s
  | .rdMpid => Sys2Proof.Machine.execRdMpid s
  | .rdElr => Sys2Proof.Machine.execRdElr s
  | .rdUnk idx => Sys2Proof.Machine.execRdUnk idx s
  | .wrGpr n => Sys2Proof.Machine.execWrGpr n s
  | .wrPc => Sys2Proof.Machine.execWrPc s
  | .wrFpx k => Sys2Proof.Machine.execWrFpx k s
  | .wrFpxX k => Sys2Proof.Machine.execWrFpxX k s
  | .wrFps => Sys2Proof.Machine.execWrFps s
  | .wrFpsX => Sys2Proof.Machine.execWrFpsX s
  | .wrPsr => Sys2Proof.Machine.execWrPsr s
  | .wrPid => Sys2Proof.Machine.execWrPid s
  | .wrCpctl => Sys2Proof.Machine.execWrCpctl s
  | .wrMask => Sys2Proof.Machine.execWrMask s
  | .wrBasemask => Sys2Proof.Machine.execWrBasemask s
  | .wrData => Sys2Proof.Machine.execWrData s
  | .wrInsn => Sys2Proof.Machine.execWrInsn s
  | .wrFsr => Sys2Proof.Machine.execWrFsr s
  | .wrMpid => Sys2Proof.Machine.execWrMpid s
  | .wrElr => Sys2Proof.Machine.execWrElr s
  | .wrUnk idx => Sys2Proof.Machine.execWrUnk idx s
  | .sessionBegin e => Sys2Proof.Machine.execSessionBegin e s

end Sys2Proof.Machine
end

