-- ==== Sys2Proof/Machine/Step.lean ====
section
/-! DEFINITION. One step: the environment's turn or the block's, which serves the host's first request. -/

namespace Sys2Proof.Machine

/-- The block's turn: the operation that the first request selects is performed; with no request the block is idle (log
entry 10). -/
def serve (s : State) : Host.Outcome State Fault Refusal :=
  match s.requests with
  | [] => .next s
  | r :: _ => exec (r.instr s.ext) s

/-- One step of the machine (20_memory.md R48, R50; log entry 11). -/
def step (s : State) : Host.Outcome State Fault Refusal :=
  match s.schedule with
  | [] => serve s
  | .serve :: rest => serve (s.setSchedule rest)
  | .env e :: rest => .next ((s.setSchedule rest).applyEnv e)

/-- `s` with the request whose key has the bits `w` issued first and everything set that the very next step needs to perform
it (log entries 6 and 15). -/
def State.withFetchWord (s : State) (nbits w : Nat) : State := s.place (tableRequest nbits w) (tableExt nbits w s.ext)

end Sys2Proof.Machine
end

