-- ==== Sys2Proof/Safety.lean ====
section
/-! DEFINITION. The terms in which the statements about the machine are written: when a request is performed, what an
operation names, the table of lengths, the causes of a zero length, the invariant, and how a run ends. -/

namespace Sys2Proof.Machine

/-- The first two checks pass: not faulted, and the CPU halted (60_exceptions.md R144). -/
abbrev Ready (s : State) : Prop := s.faulted = false ∧ s.cpuHalted = true

/-- The four bytes of a word, the least significant first (20_memory.md R42). -/
def wordBytes (v : Word) : List Byte := [v.extractLsb' 0 8, v.extractLsb' 8 8, v.extractLsb' 16 8, v.extractLsb' 24 8]

/-- The byte count of a read (30_encoding.md R66). -/
def readLen (ext : Bool) (idx : Int) : Nat :=
  if 0 ≤ idx ∧ idx ≤ 15 then 4
  else if 16 ≤ idx ∧ idx ≤ 23 then (if ext then 0 else 12)
  else if idx = 24 then (if ext then 0 else 4)
  else if 25 ≤ idx ∧ idx ≤ 34 then 4
  else 0

/-- The byte count of a write (30_encoding.md R66). -/
def writeLen (ext : Bool) (idx : Int) : Nat := if idx = 33 then 0 else readLen ext idx

/-- The causes of a zero length (60_exceptions.md R141): an internal tag, not observable. -/
inductive Cause where
  | unknown | absentInMode | readOnly
deriving DecidableEq, Repr

end Sys2Proof.Machine

open Sys2Proof Machine in
/-- The tag of an unsupported access; none for the accesses that are performed (60_exceptions.md R141, decision D26). -/
def Sys2Proof.Instr.unsupportedCause : Instr → Option Cause
  | .rdUnk _ | .wrUnk _ => some .unknown
  | .rdFpxX _ | .rdFpsX | .wrFpxX _ | .wrFpsX => some .absentInMode
  | .wrMpid => some .readOnly
  | .rdGpr _ | .rdFpx _ | .rdFps | .rdPsr | .rdPid | .rdCpctl | .rdMask | .rdBasemask | .rdData | .rdInsn | .rdFsr | .rdMpid
  | .rdElr | .wrGpr _ | .wrPc | .wrFpx _ | .wrFps | .wrPsr | .wrPid | .wrCpctl | .wrMask | .wrBasemask | .wrData | .wrInsn
  | .wrFsr | .wrElr | .sessionBegin _ => none

namespace Sys2Proof.Machine

/-- A location of the register file as the block sees it (10_state.md R20, R23, R25). -/
inductive Loc where
  | x (n : Fin 16)
  | psr
  | sys (f : SysField)
deriving DecidableEq, Repr

/-- What the location holds. -/
def State.readLoc (l : Loc) (s : State) : Word :=
  match l with
  | .x n => s.readX n
  | .psr => s.psr
  | .sys f => s.readSys f

end Sys2Proof.Machine

open Sys2Proof Machine in
/-- The location an operation names: the one a read reads (40_read.md) or a write writes (41_write.md), and none for the
placeholders, the undefined indices, the rejected WR_MPID and SESSION_BEGIN. -/
def Sys2Proof.Instr.location : Instr → Option Loc
  | .rdGpr n | .wrGpr n => some (.x n)
  | .wrPc => some (.x 15)
  | .rdPsr | .wrPsr => some .psr
  | .rdPid | .wrPid => some (.sys .pid)
  | .rdCpctl | .wrCpctl => some (.sys .cpctl)
  | .rdMask | .wrMask => some (.sys .mask)
  | .rdBasemask | .wrBasemask => some (.sys .basemask)
  | .rdData | .wrData => some (.sys .data)
  | .rdInsn | .wrInsn => some (.sys .insn)
  | .rdFsr | .wrFsr => some (.sys .fsr)
  | .rdMpid => some (.sys .mpid)
  | .rdElr | .wrElr => some (.sys .elr)
  | .rdFpx _ | .rdFpxX _ | .rdFps | .rdFpsX | .rdUnk _ | .wrFpx _ | .wrFpxX _ | .wrFps | .wrFpsX | .wrMpid | .wrUnk _
  | .sessionBegin _ => none

namespace Sys2Proof.Machine

/-- The caller passes a large enough buffer for the operation (60_exceptions.md R154): 12 bytes for a read, 4 for a write. -/
def State.bufferOk (i : Instr) (s : State) : Prop :=
  (i.isRead = true → 12 ≤ s.rbuf.length) ∧ (i.isWrite = true → 4 ≤ s.wbuf.length)

/-- The host's duty for one request (60_exceptions.md R154). -/
def Request.bufferOk : Request → Prop
  | .read _ b => 12 ≤ b.length
  | .write _ b => 4 ≤ b.length
  | .session _ => True

/-- LEN. -/
def Response.len : Response → Nat
  | .read n _ => n
  | .write n => n

/-- A response has one of the three lengths, and a read's buffer its capacity of at least 12 (30_encoding.md R64, R68). -/
def Response.wellFormed : Response → Prop
  | .read n b => (n = 0 ∨ n = 4 ∨ n = 12) ∧ 12 ≤ b.length
  | .write n => n = 0 ∨ n = 4 ∨ n = 12

/-- The invariant of the machine: the reserved bits of the status word are 0 (10_state.md R23, R33), exactly a faulted state
has recorded a model fault, which left its request unanswered (60_exceptions.md R142), and every response is well-formed
(30_encoding.md R68). -/
structure Inv (s : State) : Prop where
  psrReserved : s.psr &&& Config.psrReservedMask = 0
  faultRecorded : s.faulted = s.faultInfo.isSome
  faultUnanswered : s.faulted = true → s.unanswered = true
  responsesWellFormed : ∀ r ∈ s.responses, r.wellFormed

/-- The lengths of the responses that a list of requests has from mode `ext` on, in issue order (30_encoding.md R66, 42_session.md
R131): a session request has no response and sets the mode of what follows. -/
def expectedLens (ext : Bool) : List Request → List Nat
  | [] => []
  | .read idx _ :: l => readLen ext idx :: expectedLens ext l
  | .write idx _ :: l => writeLen ext idx :: expectedLens ext l
  | .session e :: l => expectedLens e l

/-- A run has ended normally: no request is left, the last one has had its response, and the block is not faulted
(70_reset_and_hazards.md R168; a session request has none to have, log entry 24). -/
def NormalEnd (s : State) : Prop := s.requests = [] ∧ s.unanswered = false ∧ s.faulted = false

end Sys2Proof.Machine
end

