-- ==== Sys2Proof/Certificates/Slice0/Obligations.lean ====
section
/-! DEFINITION. The statements for the provers, from the numbered rules of spec/. Each docstring names the rule. -/

open Sys2Proof Sys2Proof.Machine

/-- Derived from 30_encoding.md R64, R65; the byte layout is the model's choice, log entry 15. Every operand keeps every value the
key admits, for both values of the mode flag where the row ignores it. -/
def Obligations.DecodeEncodeRoundTrip : Prop :=
  ∀ (x : Bool) (i : Instr), i.wellFormed = true → i.encodable = true → decodeBytes (encode x i) = .ok i

/-- Derived from 30_encoding.md R64, R65: the decode key selects exactly one operation, and with bit X it is recovered whole. -/
def Obligations.EncodeDecodeKeyRoundTrip : Prop :=
  ∀ k : Key, encodeKey (k.getLsbD 32) (decodeKey k) = some k

/-- Derived from 30_encoding.md R60, R65. -/
def Obligations.SelectedOperationIsWellFormed : Prop :=
  ∀ (w ext : Bool) (idx : Int),
    (selectInstr w ext idx).wellFormed = true ∧ (selectInstr w ext idx).index = some idx ∧
    (selectInstr w ext idx).isWrite = w

/-- 30_encoding.md R60, R61, R63. -/
def Obligations.ResolverClassifiesEveryIndex : Prop :=
  (∀ n : Fin 16, resolve n.val = .gpr n) ∧ (∀ k : Fin 8, resolve (16 + k.val) = .legacyBlock k) ∧
  resolve 24 = .legacyStatus ∧ resolve 25 = .status ∧
  resolve 26 = .sys .pid ∧ resolve 27 = .sys .cpctl ∧ resolve 28 = .sys .mask ∧ resolve 29 = .sys .basemask ∧
  resolve 30 = .sys .data ∧ resolve 31 = .sys .insn ∧ resolve 32 = .sys .fsr ∧ resolve 33 = .sys .mpid ∧
  resolve 34 = .sys .elr ∧ (∀ idx : Int, idx < 0 ∨ 34 < idx → resolve idx = .unknown)

/-- Derived from 40_read.md R80 and 41_write.md R100 ("the row that key selects (from resolve(IDX) and ext)"), 30_encoding.md R61,
R64, R65: the two descriptions of the operation map are one function. -/
def Obligations.KeyDecodeAgreesWithResolver : Prop :=
  ∀ (w ext : Bool) (idx : Int), selectInstr w ext idx = roleInstr w ext idx (resolve idx)

/-- The vectors of 95_test_vectors.md section 2.2 (30_encoding.md R64, R65). -/
def Obligations.SpecKeysDecode : Prop :=
  decodeKey 0x000000000 = .rdGpr 0 ∧ decodeKey 0x10000000F = .rdGpr 15 ∧ decodeKey 0x20000000E = .wrGpr 14 ∧
  decodeKey 0x20000000F = .wrPc ∧ decodeKey 0x30000000F = .wrPc ∧ decodeKey 0x000000010 = .rdFpx 0 ∧
  decodeKey 0x100000017 = .rdFpxX 7 ∧ decodeKey 0x300000014 = .wrFpxX 4 ∧ decodeKey 0x200000018 = .wrFps ∧
  decodeKey 0x100000018 = .rdFpsX ∧ decodeKey 0x100000019 = .rdPsr ∧ decodeKey 0x20000001A = .wrPid ∧
  decodeKey 0x200000021 = .wrMpid ∧ decodeKey 0x100000022 = .rdElr ∧ decodeKey 0x000000023 = .rdUnk 35 ∧
  decodeKey 0x0FFFFFFFF = .rdUnk (-1) ∧ decodeKey 0x3FFFFFFFF = .wrUnk (-1) ∧
  decodeKey 0x07FFFFFFF = .rdUnk 2147483647

/-- Derived from 10_state.md R28 ("Its value changes the result only at indices 16 to 24"). -/
def Obligations.ModeFlagMattersOnlyAtLegacyIndices : Prop :=
  ∀ (w : Bool) (idx : Int), selectInstr w true idx = selectInstr w false idx ↔ ¬(16 ≤ idx ∧ idx ≤ 24)

/-- 20_memory.md R42. -/
def Obligations.SerializeWordLittleEndian : Prop :=
  ∀ (v : Word) (buf : Buffer), 4 ≤ buf.length →
    memWrite 0 v buf =
      v.extractLsb' 0 8 :: v.extractLsb' 8 8 :: v.extractLsb' 16 8 :: v.extractLsb' 24 8 :: buf.drop 4

/-- 20_memory.md R43. -/
def Obligations.DeserializeWordLittleEndian : Prop :=
  (∀ (b0 b1 b2 b3 : Byte) (tl : Buffer),
    memRead (b0 :: b1 :: b2 :: b3 :: tl) = some (b3 ++ b2 ++ b1 ++ b0) ∧
    (b3 ++ b2 ++ b1 ++ b0 : Word) =
      b0.zeroExtend 32 ||| (b1.zeroExtend 32 <<< 8) ||| (b2.zeroExtend 32 <<< 16) ||| (b3.zeroExtend 32 <<< 24)) ∧
  (∀ (v : Word) (buf : Buffer), 4 ≤ buf.length → memRead (memWrite 0 v buf) = some v)

/-- 40_read.md R81. -/
def Obligations.RdGprResult : Prop :=
  ∀ n : Fin 16, (∀ ext, selectInstr false ext n.val = .rdGpr n) ∧
    ∀ s : State, Ready s → 12 ≤ s.rbuf.length →
      exec (.rdGpr n) s = .next
        { s with requests := s.requests.tail, unanswered := false, responses := .read 4 (wordBytes s.rf.x[n] ++ s.rbuf.drop 4) :: s.responses }

/-- 40_read.md R82. -/
def Obligations.RdFpxResult : Prop :=
  ∀ k : Fin 8, selectInstr false false (16 + k.val) = .rdFpx k ∧
    ∀ s : State, Ready s → 12 ≤ s.rbuf.length →
      exec (.rdFpx k) s = .next
        { s with requests := s.requests.tail, unanswered := false, responses := .read 12 (List.replicate 12 0 ++ s.rbuf.drop 12) :: s.responses }

/-- 40_read.md R83, R85. -/
def Obligations.RdAbsentResult : Prop :=
  (∀ k : Fin 8, selectInstr false true (16 + k.val) = .rdFpxX k) ∧ selectInstr false true 24 = .rdFpsX ∧
    ∀ s : State, Ready s → 12 ≤ s.rbuf.length →
      (∀ k : Fin 8, exec (.rdFpxX k) s = .next
        { s with requests := s.requests.tail, unanswered := false, responses := .read 0 (s.rbuf) :: s.responses }) ∧
      exec .rdFpsX s = .next
        { s with requests := s.requests.tail, unanswered := false, responses := .read 0 (s.rbuf) :: s.responses }

/-- 40_read.md R84. -/
def Obligations.RdFpsResult : Prop :=
  selectInstr false false 24 = .rdFps ∧
    ∀ s : State, Ready s → 12 ≤ s.rbuf.length →
      exec .rdFps s = .next
        { s with requests := s.requests.tail, unanswered := false, responses := .read 4 (0 :: 0 :: 0 :: 0 :: s.rbuf.drop 4) :: s.responses }

/-- 40_read.md R86; that the reserved bits read as 0 holds in the states of the invariant (10_state.md R23, R33). -/
def Obligations.RdPsrResult : Prop :=
  (∀ ext, selectInstr false ext 25 = .rdPsr) ∧
    ∀ s : State, Ready s → 12 ≤ s.rbuf.length →
      exec .rdPsr s = .next
        { s with requests := s.requests.tail, unanswered := false, responses := .read 4 (wordBytes s.psr ++ s.rbuf.drop 4) :: s.responses } ∧
      (Inv s → wordBytes s.psr = wordBytes (s.psr &&& ~~~Config.psrReservedMask))

/-- 40_read.md R87 to R93 and R95. -/
def Obligations.RdStoredSysResult : Prop :=
  (∀ ext, selectInstr false ext 26 = .rdPid ∧ selectInstr false ext 27 = .rdCpctl ∧ selectInstr false ext 28 = .rdMask ∧ selectInstr false ext 29 = .rdBasemask ∧
    selectInstr false ext 30 = .rdData ∧ selectInstr false ext 31 = .rdInsn ∧ selectInstr false ext 32 = .rdFsr ∧ selectInstr false ext 34 = .rdElr) ∧
    ∀ s : State, Ready s → 12 ≤ s.rbuf.length →
      (exec .rdPid s = .next
        { s with requests := s.requests.tail, unanswered := false, responses := .read 4 (wordBytes s.rf.sys.pid ++ s.rbuf.drop 4) :: s.responses }) ∧
      (exec .rdCpctl s = .next
        { s with requests := s.requests.tail, unanswered := false, responses := .read 4 (wordBytes s.rf.sys.cpctl ++ s.rbuf.drop 4) :: s.responses }) ∧
      (exec .rdMask s = .next
        { s with requests := s.requests.tail, unanswered := false, responses := .read 4 (wordBytes s.rf.sys.mask ++ s.rbuf.drop 4) :: s.responses }) ∧
      (exec .rdBasemask s = .next
        { s with requests := s.requests.tail, unanswered := false, responses := .read 4 (wordBytes s.rf.sys.basemask ++ s.rbuf.drop 4) :: s.responses }) ∧
      (exec .rdData s = .next
        { s with requests := s.requests.tail, unanswered := false, responses := .read 4 (wordBytes s.rf.sys.data ++ s.rbuf.drop 4) :: s.responses }) ∧
      (exec .rdInsn s = .next
        { s with requests := s.requests.tail, unanswered := false, responses := .read 4 (wordBytes s.rf.sys.insn ++ s.rbuf.drop 4) :: s.responses }) ∧
      (exec .rdFsr s = .next
        { s with requests := s.requests.tail, unanswered := false, responses := .read 4 (wordBytes s.rf.sys.fsr ++ s.rbuf.drop 4) :: s.responses }) ∧
      (exec .rdElr s = .next
        { s with requests := s.requests.tail, unanswered := false, responses := .read 4 (wordBytes s.rf.sys.elr ++ s.rbuf.drop 4) :: s.responses })

/-- 40_read.md R94. MPID_COMPOSE is a free value (log entry 4), MPID_SOURCE a natural number by log entry 2. -/
def Obligations.RdMpidResult : Prop :=
  (∀ ext, selectInstr false ext 33 = .rdMpid) ∧
    ∀ s : State, Ready s → 12 ≤ s.rbuf.length →
      exec .rdMpid s = .next
        { s with requests := s.requests.tail, unanswered := false, responses := .read 4 (wordBytes (Config.mpidCompose s.mpidSource) ++ s.rbuf.drop 4) :: s.responses }

/-- 40_read.md R96. -/
def Obligations.RdUnkResult : Prop :=
  ∀ idx : Int, idx < 0 ∨ 34 < idx → (∀ ext, selectInstr false ext idx = .rdUnk idx) ∧
    ∀ s : State, Ready s → 12 ≤ s.rbuf.length →
      exec (.rdUnk idx) s = .next
        { s with requests := s.requests.tail, unanswered := false, responses := .read 0 (s.rbuf) :: s.responses }

/-- 41_write.md R101. -/
def Obligations.WrGprResult : Prop :=
  ∀ n : Fin 16, n ≠ 15 → (∀ ext, selectInstr true ext n.val = .wrGpr n) ∧
    ∀ (b0 b1 b2 b3 : Byte) (tl : Buffer) (s : State), Ready s → s.wbuf = b0 :: b1 :: b2 :: b3 :: tl →
      exec (.wrGpr n) s = .next
        { s with rf := { s.rf with x := s.rf.x.set n (b3 ++ b2 ++ b1 ++ b0) }, requests := s.requests.tail, unanswered := false, responses := .write 4 :: s.responses }

/-- 41_write.md R102. -/
def Obligations.WrPcResult : Prop :=
  (∀ ext, selectInstr true ext 15 = .wrPc) ∧
    (∀ v : Word, (v &&& 0xFFFFFFFE).getLsbD 0 = false ∧ ∀ j, 1 ≤ j → (v &&& 0xFFFFFFFE).getLsbD j = v.getLsbD j) ∧
    ∀ (b0 b1 b2 b3 : Byte) (tl : Buffer) (s : State), Ready s → s.wbuf = b0 :: b1 :: b2 :: b3 :: tl →
      exec .wrPc s = .next
        { s with rf := { s.rf with x := s.rf.x.set 15 ((b3 ++ b2 ++ b1 ++ b0) &&& 0xFFFFFFFE) }, requests := s.requests.tail, unanswered := false, responses := .write 4 :: s.responses }

/-- 41_write.md R103. -/
def Obligations.WrFpxResult : Prop :=
  ∀ k : Fin 8, selectInstr true false (16 + k.val) = .wrFpx k ∧
    (∀ (b0 b1 b2 b3 : Byte) (tl : Buffer) (s : State), Ready s → s.wbuf = b0 :: b1 :: b2 :: b3 :: tl →
      exec (.wrFpx k) s = .next
        { s with requests := s.requests.tail, unanswered := false, responses := .write 12 :: s.responses }) ∧
    ∀ (s : State) (b buf : Buffer) (rest : List Request), Ready s → s.ext = false → s.schedule = [] → 4 ≤ b.length →
      12 ≤ buf.length → s.requests = .write (16 + k.val) b :: .read (16 + k.val) buf :: rest →
      core.run 2 s = .next
        { s with requests := rest, unanswered := false, responses := .read 12 (List.replicate 12 0 ++ buf.drop 12) :: .write 12 :: s.responses }

/-- 41_write.md R104, R106. -/
def Obligations.WrAbsentResult : Prop :=
  (∀ k : Fin 8, selectInstr true true (16 + k.val) = .wrFpxX k) ∧ selectInstr true true 24 = .wrFpsX ∧
    ∀ (b0 b1 b2 b3 : Byte) (tl : Buffer) (s : State), Ready s → s.wbuf = b0 :: b1 :: b2 :: b3 :: tl →
      (∀ k : Fin 8, exec (.wrFpxX k) s = .next
        { s with requests := s.requests.tail, unanswered := false, responses := .write 0 :: s.responses }) ∧
      exec .wrFpsX s = .next
        { s with requests := s.requests.tail, unanswered := false, responses := .write 0 :: s.responses }

/-- 41_write.md R105. -/
def Obligations.WrFpsResult : Prop :=
  selectInstr true false 24 = .wrFps ∧
    ∀ (b0 b1 b2 b3 : Byte) (tl : Buffer) (s : State), Ready s → s.wbuf = b0 :: b1 :: b2 :: b3 :: tl →
      exec .wrFps s = .next
        { s with requests := s.requests.tail, unanswered := false, responses := .write 4 :: s.responses }

/-- 41_write.md R107. PSR_RESERVED_MASK and PSR_WRITE_EFFECT are free values (log entry 4). -/
def Obligations.WrPsrResult : Prop :=
  (∀ ext, selectInstr true ext 25 = .wrPsr) ∧
    (∀ (b0 b1 b2 b3 : Byte) (tl : Buffer) (s : State), Ready s → s.wbuf = b0 :: b1 :: b2 :: b3 :: tl →
      exec .wrPsr s = .next
        { s with rf := Config.psrWriteEffect s.rf (b3 ++ b2 ++ b1 ++ b0),
                 psr := (b3 ++ b2 ++ b1 ++ b0) &&& ~~~Config.psrReservedMask, requests := s.requests.tail, unanswered := false, responses := .write 4 :: s.responses }) ∧
    ∀ (b0 b1 b2 b3 : Byte) (tl buf : Buffer) (s : State) (rest : List Request), Ready s → s.schedule = [] →
      12 ≤ buf.length → s.requests = .write 25 (b0 :: b1 :: b2 :: b3 :: tl) :: .read 25 buf :: rest →
      ∃ t, core.run 2 s = .next t ∧ t.responses = .read 4 (wordBytes ((b3 ++ b2 ++ b1 ++ b0) &&& ~~~Config.psrReservedMask) ++ buf.drop 4) ::
        .write 4 :: s.responses

/-- 41_write.md R108 to R114 and R116. -/
def Obligations.WrStoredSysResult : Prop :=
  (∀ ext, selectInstr true ext 26 = .wrPid ∧ selectInstr true ext 27 = .wrCpctl ∧ selectInstr true ext 28 = .wrMask ∧ selectInstr true ext 29 = .wrBasemask ∧
    selectInstr true ext 30 = .wrData ∧ selectInstr true ext 31 = .wrInsn ∧ selectInstr true ext 32 = .wrFsr ∧ selectInstr true ext 34 = .wrElr) ∧
    ∀ (b0 b1 b2 b3 : Byte) (tl : Buffer) (s : State), Ready s → s.wbuf = b0 :: b1 :: b2 :: b3 :: tl →
      (exec .wrPid s = .next
        { s with rf := { s.rf with sys := { s.rf.sys with pid := b3 ++ b2 ++ b1 ++ b0 } }, requests := s.requests.tail, unanswered := false, responses := .write 4 :: s.responses }) ∧
      (exec .wrCpctl s = .next
        { s with rf := { s.rf with sys := { s.rf.sys with cpctl := b3 ++ b2 ++ b1 ++ b0 } }, requests := s.requests.tail, unanswered := false, responses := .write 4 :: s.responses }) ∧
      (exec .wrMask s = .next
        { s with rf := { s.rf with sys := { s.rf.sys with mask := b3 ++ b2 ++ b1 ++ b0 } }, requests := s.requests.tail, unanswered := false, responses := .write 4 :: s.responses }) ∧
      (exec .wrBasemask s = .next
        { s with rf := { s.rf with sys := { s.rf.sys with basemask := b3 ++ b2 ++ b1 ++ b0 } }, requests := s.requests.tail, unanswered := false, responses := .write 4 :: s.responses }) ∧
      (exec .wrData s = .next
        { s with rf := { s.rf with sys := { s.rf.sys with data := b3 ++ b2 ++ b1 ++ b0 } }, requests := s.requests.tail, unanswered := false, responses := .write 4 :: s.responses }) ∧
      (exec .wrInsn s = .next
        { s with rf := { s.rf with sys := { s.rf.sys with insn := b3 ++ b2 ++ b1 ++ b0 } }, requests := s.requests.tail, unanswered := false, responses := .write 4 :: s.responses }) ∧
      (exec .wrFsr s = .next
        { s with rf := { s.rf with sys := { s.rf.sys with fsr := b3 ++ b2 ++ b1 ++ b0 } }, requests := s.requests.tail, unanswered := false, responses := .write 4 :: s.responses }) ∧
      (exec .wrElr s = .next
        { s with rf := { s.rf with sys := { s.rf.sys with elr := b3 ++ b2 ++ b1 ++ b0 } }, requests := s.requests.tail, unanswered := false, responses := .write 4 :: s.responses })

/-- 41_write.md R115. -/
def Obligations.WrMpidResult : Prop :=
  (∀ ext, selectInstr true ext 33 = .wrMpid) ∧
    (∀ (b0 b1 b2 b3 : Byte) (tl : Buffer) (s : State), Ready s → s.wbuf = b0 :: b1 :: b2 :: b3 :: tl →
      exec .wrMpid s = .next
        { s with requests := s.requests.tail, unanswered := false, responses := .write 0 :: s.responses }) ∧
    ∀ (s : State) (b buf : Buffer) (rest : List Request), Ready s → s.schedule = [] → 4 ≤ b.length → 12 ≤ buf.length →
      s.requests = .write 33 b :: .read 33 buf :: rest →
      ∃ t u r, core.run 2 s = .next t ∧ step { s with requests := .read 33 buf :: rest } = .next u ∧
        t.responses = r :: .write 0 :: s.responses ∧ u.responses = r :: s.responses

/-- 41_write.md R117. -/
def Obligations.WrUnkResult : Prop :=
  ∀ idx : Int, idx < 0 ∨ 34 < idx → (∀ ext, selectInstr true ext idx = .wrUnk idx) ∧
    ∀ (b0 b1 b2 b3 : Byte) (tl : Buffer) (s : State), Ready s → s.wbuf = b0 :: b1 :: b2 :: b3 :: tl →
      exec (.wrUnk idx) s = .next
        { s with requests := s.requests.tail, unanswered := false, responses := .write 0 :: s.responses }

/-- Derived from 42_session.md R130. "No step" is the stop quiescent for a faulted state (log entry 8), an unchanged next state for a
held request (log entry 9); a finished session request is off the list and leaves nothing unanswered (log entries 6, 24). -/
def Obligations.SessionBeginResult : Prop :=
  State.reset.ext = false ∧
  ∀ (e : Bool) (s : State),
    (Ready s → exec (.sessionBegin e) s = .next { s with ext := e, requests := s.requests.tail, unanswered := false }) ∧
    (s.faulted = true → exec (.sessionBegin e) s = .fault .quiescent) ∧
    (s.faulted = false → s.cpuHalted = false → exec (.sessionBegin e) s = .next s)

/-- Derived from 60_exceptions.md R144. "No step" is the stop quiescent for a faulted state (log entry 8), an unchanged next state for a
held request (log entry 9); a model fault is a next state that finishes the request (log entry 7). -/
def Obligations.CheckOrder : Prop :=
  ∀ (i : Instr) (s : State),
    (s.faulted = true → exec i s = .fault .quiescent) ∧
    (s.faulted = false → s.cpuHalted = false → exec i s = .next s) ∧
    (∀ idx, Ready s → i.index = some idx → i.isWrite = false → s.rbuf.length < 12 →
      exec i s = .next (s.raise (.readBufferSmall s.rbuf.length idx))) ∧
    (∀ idx, Ready s → i.index = some idx → i.isWrite = true → s.wbuf.length < 4 →
      exec i s = .next (s.raise (.writeBufferShort s.wbuf.length idx))) ∧
    (Ready s → s.bufferOk i → ∃ t, exec i s = .next t ∧ t.faulted = false ∧ t.unanswered = false ∧
      t.requests = s.requests.tail)

/-- Derived from 60_exceptions.md R142. That the fault is a next state and the request is finished is log entry 7, that the request stays
unanswered log entry 24, that every later operation answers the stop quiescent log entry 8. -/
def Obligations.ModelFaultEffect : Prop :=
  ∀ (i : Instr) (s : State) (idx : Int), Ready s → i.index = some idx →
    (i.isWrite = false ∧ s.rbuf.length < 12 ∨ i.isWrite = true ∧ s.wbuf.length < 4) →
    ∃ t f, exec i s = .next t ∧ t.faulted = true ∧ t.faultInfo = some f ∧
      f = (if i.isWrite then .writeBufferShort s.wbuf.length idx else .readBufferSmall s.rbuf.length idx) ∧
      f.code = (if i.isWrite then 2 else 1) ∧
      t.rf = s.rf ∧ t.psr = s.psr ∧ t.mpidSource = s.mpidSource ∧ t.ext = s.ext ∧ t.responses = s.responses ∧
      t.requests = s.requests.tail ∧ t.unanswered = true ∧ ∀ j, exec j t = .fault .quiescent

/-- Derived from 60_exceptions.md R143. A hold is an unchanged next state (log entry 9); whose turn a step is, is log entry 11. -/
def Obligations.RequestHeldUntilCpuHalted : Prop :=
  ∀ s : State, s.faulted = false → s.cpuHalted = false →
    (∀ i, exec i s = .next s) ∧
    (s.schedule = [] → ∀ n, core.run n s = .next s) ∧
    (∀ rest, s.schedule = .env .haltCpu :: rest → step s = .next { s with cpuHalted := true, schedule := rest }) ∧
    (∀ r l, s.schedule = [.env .haltCpu] → s.requests = r :: l →
      core.run 2 s = exec (r.instr s.ext) { s with cpuHalted := true, schedule := [] })

/-- Derived from 10_state.md R30 and 60_exceptions.md R146. -/
def Obligations.OnlyBlockResetClearsFault : Prop :=
  ∀ s t : State, s.faulted = true → step s = .next t → (∀ rest, s.schedule ≠ .env .resetBlock :: rest) →
    t.faulted = true ∧ t.faultInfo = s.faultInfo

/-- 70_reset_and_hazards.md R160. -/
def Obligations.BlockResetEffect : Prop :=
  ∀ (s : State) (rest : List Turn), s.schedule = .env .resetBlock :: rest →
    ∃ t, step s = .next t ∧ t.ext = false ∧ t.faulted = false ∧ t.rf = s.rf ∧ t.psr = s.psr ∧ t.mpidSource = s.mpidSource

/-- Derived from 10_state.md R33, 70_reset_and_hazards.md R160: the values the spec gives. The others are the model's choice (log
entries 1 to 3). -/
def Obligations.ResetValues : Prop :=
  State.reset.ext = false ∧ State.reset.faulted = false ∧ State.reset.psr &&& Config.psrReservedMask = 0

/-- 30_encoding.md R66. -/
def Obligations.LengthTable : Prop :=
  ∀ (s : State) (idx : Int) (rest : List Request), Ready s → s.schedule = [] →
    (∀ buf, 12 ≤ buf.length → s.requests = .read idx buf :: rest →
      ∃ t buf', step s = .next t ∧ t.responses = .read
        (if 0 ≤ idx ∧ idx ≤ 15 then 4 else if 16 ≤ idx ∧ idx ≤ 23 then (if s.ext then 0 else 12)
          else if idx = 24 then (if s.ext then 0 else 4) else if 25 ≤ idx ∧ idx ≤ 34 then 4 else 0) buf' :: s.responses) ∧
    (∀ b, 4 ≤ b.length → s.requests = .write idx b :: rest →
      ∃ t, step s = .next t ∧ t.responses = .write
        (if 0 ≤ idx ∧ idx ≤ 15 then 4 else if 16 ≤ idx ∧ idx ≤ 23 then (if s.ext then 0 else 12)
          else if idx = 24 then (if s.ext then 0 else 4) else if idx = 33 then 0
          else if 25 ≤ idx ∧ idx ≤ 34 then 4 else 0) :: s.responses)

/-- 60_exceptions.md R141. -/
def Obligations.UnsupportedAccess : Prop :=
  (∀ (w ext : Bool) (idx : Int), (selectInstr w ext idx).unsupportedCause =
    if idx < 0 ∨ 34 < idx then some .unknown
    else if 16 ≤ idx ∧ idx ≤ 24 ∧ ext = true then some .absentInMode
    else if w = true ∧ idx = 33 then some .readOnly
    else none) ∧
  ∀ (i : Instr) (s : State), i.index.isSome = true → Ready s → s.bufferOk i →
    ∃ t r, exec i s = .next t ∧ t.responses = r :: s.responses ∧ (r.len = 0 ↔ i.unsupportedCause.isSome = true) ∧
      (r.len = 0 → t = { s with requests := s.requests.tail, unanswered := false, responses := r :: s.responses })

/-- 40_read.md R97; in (d) any reads stand between the two. -/
def Obligations.ReadLaws : Prop :=
  ∀ (s : State) (idx : Int) (buf : Buffer) (rest : List Request), Ready s → s.schedule = [] → 12 ≤ buf.length →
    s.requests = .read idx buf :: rest →
    (∃ buf', step s = .next { s with requests := rest, unanswered := false, responses := .read (readLen s.ext idx) buf' :: s.responses } ∧
      buf'.length = buf.length ∧ ∀ k, readLen s.ext idx ≤ k → buf'[k]? = buf[k]?) ∧
    (∀ (mid : List Request) (buf2 : Buffer) (rest2 : List Request),
      (∀ r ∈ mid, ∃ j b, r = .read j b ∧ 12 ≤ b.length) → 12 ≤ buf2.length → rest = mid ++ .read idx buf2 :: rest2 →
      ∃ t l b1 b2 new, core.run (mid.length + 2) s = .next t ∧
        t.responses = .read l b2 :: (new ++ .read l b1 :: s.responses) ∧ new.length = mid.length ∧
        b2.take l = b1.take l)

/-- Derived from 20_memory.md R45, R49: the frame of the sixteen read operations. -/
def Obligations.ReadFrame : Prop :=
  ∀ (i : Instr) (s t : State), i.isRead = true → exec i s = .next t →
    t.rf = s.rf ∧ t.psr = s.psr ∧ t.mpidSource = s.mpidSource ∧ t.ext = s.ext ∧ t.cpuHalted = s.cpuHalted ∧
    t.schedule = s.schedule ∧
    (t.responses = s.responses ∨
      ∃ l buf', t.responses = .read l buf' :: s.responses ∧ buf'.length = s.rbuf.length ∧
        ∀ k, l ≤ k → buf'[k]? = s.rbuf[k]?)

/-- Derived from 20_memory.md R48: the frame of the seventeen write operations. -/
def Obligations.WriteFrame : Prop :=
  ∀ (i : Instr) (s t : State), i.isWrite = true → exec i s = .next t →
    t.mpidSource = s.mpidSource ∧ t.ext = s.ext ∧ t.cpuHalted = s.cpuHalted ∧ t.schedule = s.schedule ∧
    (i ≠ .wrPsr → ∀ l, i.location ≠ some l → t.readLoc l = s.readLoc l) ∧
    (i = .wrPsr → t.rf = s.rf ∨ ∃ v, memRead s.wbuf = some v ∧ t.rf = Config.psrWriteEffect s.rf v) ∧
    (t.responses = s.responses ∨ ∃ n, t.responses = .write n :: s.responses)

/-- Derived from 42_session.md R132; the second clause is R131 over the model's turns (log entries 11, 13, 14). -/
def Obligations.ExtWrittenOnlyBySession : Prop :=
  (∀ (i : Instr) (s t : State), (∀ e, i ≠ .sessionBegin e) → exec i s = .next t → t.ext = s.ext) ∧
  ∀ s t : State, step s = .next t → t.ext ≠ s.ext →
    (∃ e rest, s.schedule = .env (.peerSession e) :: rest) ∨ (∃ rest, s.schedule = .env .resetBlock :: rest) ∨
    ((s.schedule = [] ∨ ∃ rest, s.schedule = .serve :: rest) ∧ ∃ e rest, s.requests = .session e :: rest)

/-- Derived from 10_state.md R26, 40_read.md R94: the same first four bytes are answered by a read of index 33 issued before and one
issued after any number of steps. MPID_COMPOSE is a free value (log entry 4); that no turn changes MPID_SOURCE is log entry 2. -/
def Obligations.MpidConstant : Prop :=
  (∀ s : State, s.readSys .mpid = Config.mpidCompose s.mpidSource) ∧
  ∀ (n : Nat) (s t : State), core.run n s = .next t →
    t.mpidSource = s.mpidSource ∧ t.readSys .mpid = s.readSys .mpid ∧
    ∀ (buf buf' : Buffer) (l l' : List Request), Ready s → Ready t → 12 ≤ buf.length → 12 ≤ buf'.length →
      ∃ u v b b', exec .rdMpid { s with requests := .read 33 buf :: l } = .next u ∧ u.responses = .read 4 b :: s.responses ∧
        exec .rdMpid { t with requests := .read 33 buf' :: l' } = .next v ∧ v.responses = .read 4 b' :: t.responses ∧
        b'.take 4 = b.take 4

/-- Derived from 10_state.md R21, 41_write.md R102. WR_PSR is left out because PSR_WRITE_EFFECT is open (log entry 4). -/
def Obligations.PcBitZeroKept : Prop :=
  (∀ (i : Instr) (s t : State), i.wellFormed = true → i ≠ .wrPsr → s.rf.x[15].getLsbD 0 = false →
    exec i s = .next t → t.rf.x[15].getLsbD 0 = false) ∧
  ∀ s : State, Ready s → 4 ≤ s.wbuf.length → ∃ t, exec .wrPc s = .next t ∧ t.rf.x[15].getLsbD 0 = false

/-- 41_write.md R119, over the block's steps from every ready state. PSR_RESERVED_MASK is a free value (log entry 4). -/
def Obligations.RoundTripLaws : Prop :=
  (∀ (s : State) (n : Fin 16) (buf : Buffer) (rest : List Request), Ready s → s.schedule = [] → 12 ≤ buf.length →
    s.requests = .read n.val buf :: rest →
    ∃ buf', step s = .next { s with requests := rest, unanswered := false, responses := .read 4 buf' :: s.responses } ∧
      step { s with requests := .write n.val (buf'.take 4) :: rest, unanswered := false, responses := .read 4 buf' :: s.responses } = .next
        { s with
          rf := if n = 15 then { s.rf with x := s.rf.x.set 15 (s.rf.x[15] &&& 0xFFFFFFFE) } else s.rf
          requests := rest, unanswered := false, responses := .write 4 :: .read 4 buf' :: s.responses }) ∧
  (∀ (s : State) (i : Int) (b0 b1 b2 b3 : Byte) (tl buf : Buffer) (rest : List Request), Ready s → s.schedule = [] →
    12 ≤ buf.length → s.requests = .write i (b0 :: b1 :: b2 :: b3 :: tl) :: .read i buf :: rest →
    (0 ≤ i ∧ i ≤ 15 ∨ 25 ≤ i ∧ i ≤ 32 ∨ i = 34) →
    ∃ t, core.run 2 s = .next t ∧ t.responses =
      .read 4 ((if i = 15 then [b0 &&& 0xFE, b1, b2, b3]
        else if i = 25 then wordBytes ((b3 ++ b2 ++ b1 ++ b0) &&& ~~~Config.psrReservedMask)
        else [b0, b1, b2, b3]) ++ buf.drop 4) :: .write 4 :: s.responses) ∧
  (∀ (s : State) (b : Buffer) (rest : List Request), Ready s → s.schedule = [] → 4 ≤ b.length →
    s.requests = .write 33 b :: rest →
    step s = .next { s with requests := rest, unanswered := false, responses := .write 0 :: s.responses })

/-- Derived from 20_memory.md R46. Of a faulted state the answer is the stop quiescent (log entry 8), of a read performed for a write
request the fault of an empty read buffer (log entry 17); a held request stays as it is, its own bytes with it (log entry 9). -/
def Obligations.BytesBeyondThreeIgnored : Prop :=
  ∀ (i : Instr) (s : State) (idx : Int) (b0 b1 b2 b3 : Byte) (tl tl' : Buffer) (rest : List Request),
    (s.faulted = true ∨ s.cpuHalted = true →
      exec i { s with requests := .write idx (b0 :: b1 :: b2 :: b3 :: tl) :: rest } =
        exec i { s with requests := .write idx (b0 :: b1 :: b2 :: b3 :: tl') :: rest }) ∧
    (s.faulted = false → s.cpuHalted = false →
      exec i { s with requests := .write idx (b0 :: b1 :: b2 :: b3 :: tl) :: rest } =
        .next { s with requests := .write idx (b0 :: b1 :: b2 :: b3 :: tl) :: rest })

/-- Derived from 20_memory.md R49 and 60_exceptions.md R154 (a read may touch "the selected location (read only)"). -/
def Obligations.ReadRevealsOnlyItsLocation : Prop :=
  ∀ (i : Instr) (s t : State), i.isRead = true → Ready s → Ready t → s.rbuf = t.rbuf → 12 ≤ s.rbuf.length →
    (∀ l, i.location = some l → s.readLoc l = t.readLoc l) →
    ∃ s' t' r, exec i s = .next s' ∧ exec i t = .next t' ∧ s'.responses = r :: s.responses ∧ t'.responses = r :: t.responses

/-- Derived from 20_memory.md R48, R50, 40_read.md R80, 41_write.md R100; turns and idling are the model's, log entries 10, 11. -/
def Obligations.StepRunsSelectedOperation : Prop :=
  (∀ (s : State) (idx : Int) (b : Buffer) (rest : List Request), s.schedule = [] →
    (s.requests = .read idx b :: rest → step s = exec (selectInstr false s.ext idx) s) ∧
    (s.requests = .write idx b :: rest → step s = exec (selectInstr true s.ext idx) s)) ∧
  (∀ (s : State) (e : Bool) (rest : List Request), s.schedule = [] →
    s.requests = .session e :: rest → step s = exec (.sessionBegin e) s) ∧
  (∀ s : State, s.schedule = [] → s.requests = [] → step s = .next s) ∧
  ∀ (s : State) (rest : List Turn), s.schedule = .serve :: rest → step s = serve { s with schedule := rest }

/-- Derived from 30_encoding.md R64, R65; placing a request is the model's, log entries 6, 15. -/
def Obligations.KeySelectsAndRuns : Prop :=
  ∀ (k : Key) (s : State),
    decodeTableWord 40 k.toNat = some (decodeKey k) ∧
    step (s.withFetchWord 40 k.toNat) = exec (decodeKey k)
      { s.withFetchWord 40 k.toNat with schedule := s.schedule } ∧
    Ready (s.withFetchWord 40 k.toNat) ∧ (s.withFetchWord 40 k.toNat).bufferOk (decodeKey k)

/-- Derived from 60_exceptions.md R143, R151, 70_reset_and_hazards.md R161, R164; the turns are the model's, log entries 11, 12, 14. -/
def Obligations.EnvironmentTurns : Prop :=
  ∀ (s : State) (rest : List Turn) (rf : RegFile) (p : Word) (e : Bool),
    (s.schedule = .env .haltCpu :: rest → step s = .next { s with cpuHalted := true, schedule := rest }) ∧
    (s.schedule = .env .resumeCpu :: rest → step s = .next { s with cpuHalted := false, schedule := rest }) ∧
    (s.schedule = .env (.cpuRuns rf p) :: rest → s.cpuHalted = true → step s = .next { s with schedule := rest }) ∧
    (s.schedule = .env (.cpuRuns rf p) :: rest → s.cpuHalted = false →
      step s = .next { s with rf := rf, psr := p &&& ~~~Config.psrReservedMask, schedule := rest }) ∧
    (s.schedule = .env (.cpuReset rf p) :: rest →
      step s = .next { s with rf := rf, psr := p &&& ~~~Config.psrReservedMask, schedule := rest }) ∧
    (s.schedule = .env (.peerSession e) :: rest → step s = .next { s with ext := e, schedule := rest })

/-- Derived from 10_state.md R23, R33, 30_encoding.md R68, 60_exceptions.md R142. The model's choices it rests on: what a model fault
records and that its request stays unanswered (log entries 7, 24), that the CPU's stores leave the reserved bits 0 (log entry 12),
that a block reset clears the recorded info (log entry 13). PSR_RESERVED_MASK and PSR_WRITE_EFFECT are free values (log entry 4). -/
def Obligations.StepKeepsInvariant : Prop :=
  ∀ s t : State, Inv s → step s = .next t → Inv t

/-- Derived from 10_state.md R33, 70_reset_and_hazards.md R160; that psr is 0 and nothing is recorded or answered is the model's, log
entries 1, 6, 7. -/
def Obligations.ResetHasInvariant : Prop :=
  Inv State.reset

/-- Derived from 60_exceptions.md R140, 20_memory.md R50, 70_reset_and_hazards.md R168: no access fails, whatever its index, mode or
value. The list of requests is log entry 6, the empty schedule (the block's turns) log entry 11; a run with no request has nothing
left unanswered before it (log entry 24). -/
def Obligations.EveryRunEndsNormally : Prop :=
  ∀ s : State, Ready s → s.schedule = [] → (∀ r ∈ s.requests, r.bufferOk) → (s.requests = [] → s.unanswered = false) →
    ∃ t new, core.run s.requests.length s = .next t ∧ NormalEnd t ∧ t.cpuHalted = true ∧
      t.responses = new ++ s.responses ∧
      new.reverse.map Response.len = expectedLens s.ext s.requests

/-- Derived from 70_reset_and_hazards.md R168, 60_exceptions.md R142, R143. That a model fault finishes the request is log entry 7, that
it stays unanswered log entry 24, that a block reset leaves it so log entry 13, whose turn it is log entry 11, a hold log entry 9. -/
def Obligations.UnansweredOrHeldIsNoNormalEnd : Prop :=
  (∀ (s : State) (r : Request) (rest : List Turn), Ready s → s.requests = [r] → ¬ r.bufferOk →
    s.schedule = .serve :: .env .resetBlock :: rest →
    ∃ t, core.run 2 s = .next t ∧ t.requests = [] ∧ t.faulted = false ∧ t.responses = s.responses ∧
      ∀ n u, core.run n t = .next u → ¬ NormalEnd u) ∧
  (∀ (n : Nat) (s t : State), s.requests = [] → s.unanswered = true → core.run n s = .next t → ¬ NormalEnd t) ∧
  ∀ (n : Nat) (s : State), s.faulted = false → s.cpuHalted = false → s.schedule = [] → s.requests ≠ [] →
    ∃ t, core.run n s = .next t ∧ ¬ NormalEnd t
end

