-- ==== Sys2Proof/Laws/Buffer.lean ====
section
/-! SUPPORT. The buffer: what MemWrite and MemRead do, and that a buffer is determined by what it reads at each offset. -/

namespace Sys2Proof.Machine

/-- A buffer has one canonical form: two that read the same at every offset are equal (log entry 20). -/
theorem buffer_ext {a b : Buffer} (h : ∀ k : Nat, a[k]? = b[k]?) : a = b := List.ext_getElem? h

/-- MemWrite keeps the capacity. -/
@[simp] theorem memWrite_length (k : Nat) (v : Word) (buf : Buffer) : (memWrite k v buf).length = buf.length := by
  simp [memWrite]

/-- MemWrite leaves every other offset alone. -/
theorem memWrite_other (k : Nat) (v : Word) (buf : Buffer) (j : Nat) (h : j < k ∨ k + 3 < j) :
    (memWrite k v buf)[j]? = buf[j]? := by
  have h0 : k ≠ j := by omega
  have h1 : k + 1 ≠ j := by omega
  have h2 : k + 2 ≠ j := by omega
  have h3 : k + 3 ≠ j := by omega
  simp [memWrite, h0, h1, h2, h3]

/-- A byte MemWrite wrote reads back as that byte of the word. -/
theorem memWrite_same (k : Nat) (v : Word) (buf : Buffer) (j : Nat) (hj : j < 4) (h : k + 3 < buf.length) :
    (memWrite k v buf)[k + j]? = some (v.extractLsb' (8 * j) 8) := by
  have hk : k < buf.length := by omega
  have hk1 : k + 1 < buf.length := by omega
  have hk2 : k + 2 < buf.length := by omega
  interval_cases j <;> simp [memWrite, h, hk, hk1, hk2]

/-- MemRead fails exactly on a buffer of fewer than four bytes. -/
theorem memRead_eq_none {buf : Buffer} : memRead buf = none ↔ buf.length < 4 := by
  match buf with
  | [] | [_] | [_, _] | [_, _, _] => simp [memRead]
  | _ :: _ :: _ :: _ :: _ => simp [memRead]

/-- MemRead succeeds exactly on four bytes and whatever follows them. -/
theorem memRead_eq_some {buf : Buffer} {v : Word} :
    memRead buf = some v ↔ ∃ b0 b1 b2 b3 tl, buf = b0 :: b1 :: b2 :: b3 :: tl ∧ v = b3 ++ b2 ++ b1 ++ b0 := by
  match buf with
  | [] | [_] | [_, _] | [_, _, _] => simp [memRead]
  | c0 :: c1 :: c2 :: c3 :: tl =>
    constructor
    · intro h
      exact ⟨c0, c1, c2, c3, tl, rfl, by simpa [memRead] using h.symm⟩
    · rintro ⟨b0, b1, b2, b3, tl', h, rfl⟩
      simp only [List.cons.injEq] at h
      obtain ⟨rfl, rfl, rfl, rfl, rfl⟩ := h
      rfl

/-- Four bytes and a rest. -/
theorem exists_four_bytes {buf : Buffer} (h : 4 ≤ buf.length) : ∃ b0 b1 b2 b3 tl, buf = b0 :: b1 :: b2 :: b3 :: tl := by
  match buf, h with
  | b0 :: b1 :: b2 :: b3 :: tl, _ => exact ⟨b0, b1, b2, b3, tl, rfl⟩

end Sys2Proof.Machine
end

