-- ==== Sys2Proof/Laws/State.lean ====
section
/-! SUPPORT. What each update of the state does to each field, true by definition, so that no proof unfolds an update. -/

namespace Sys2Proof.Machine

variable (s : State)

@[simp] theorem State.writeX_rf (n : Fin 16) (v : Word) : (s.writeX n v).rf = { s.rf with x := s.rf.x.set n v } := rfl
@[simp] theorem State.writeX_psr (n : Fin 16) (v : Word) : (s.writeX n v).psr = s.psr := rfl
@[simp] theorem State.writeX_mpidSource (n : Fin 16) (v : Word) : (s.writeX n v).mpidSource = s.mpidSource := rfl
@[simp] theorem State.writeX_ext (n : Fin 16) (v : Word) : (s.writeX n v).ext = s.ext := rfl
@[simp] theorem State.writeX_faulted (n : Fin 16) (v : Word) : (s.writeX n v).faulted = s.faulted := rfl
@[simp] theorem State.writeX_faultInfo (n : Fin 16) (v : Word) : (s.writeX n v).faultInfo = s.faultInfo := rfl
@[simp] theorem State.writeX_cpuHalted (n : Fin 16) (v : Word) : (s.writeX n v).cpuHalted = s.cpuHalted := rfl
@[simp] theorem State.writeX_requests (n : Fin 16) (v : Word) : (s.writeX n v).requests = s.requests := rfl
@[simp] theorem State.writeX_responses (n : Fin 16) (v : Word) : (s.writeX n v).responses = s.responses := rfl
@[simp] theorem State.writeX_unanswered (n : Fin 16) (v : Word) : (s.writeX n v).unanswered = s.unanswered := rfl
@[simp] theorem State.writeX_schedule (n : Fin 16) (v : Word) : (s.writeX n v).schedule = s.schedule := rfl

@[simp] theorem State.setRf_rf (rf : RegFile) : (s.setRf rf).rf = rf := rfl
@[simp] theorem State.setRf_psr (rf : RegFile) : (s.setRf rf).psr = s.psr := rfl
@[simp] theorem State.setRf_mpidSource (rf : RegFile) : (s.setRf rf).mpidSource = s.mpidSource := rfl
@[simp] theorem State.setRf_ext (rf : RegFile) : (s.setRf rf).ext = s.ext := rfl
@[simp] theorem State.setRf_faulted (rf : RegFile) : (s.setRf rf).faulted = s.faulted := rfl
@[simp] theorem State.setRf_faultInfo (rf : RegFile) : (s.setRf rf).faultInfo = s.faultInfo := rfl
@[simp] theorem State.setRf_cpuHalted (rf : RegFile) : (s.setRf rf).cpuHalted = s.cpuHalted := rfl
@[simp] theorem State.setRf_requests (rf : RegFile) : (s.setRf rf).requests = s.requests := rfl
@[simp] theorem State.setRf_responses (rf : RegFile) : (s.setRf rf).responses = s.responses := rfl
@[simp] theorem State.setRf_unanswered (rf : RegFile) : (s.setRf rf).unanswered = s.unanswered := rfl
@[simp] theorem State.setRf_schedule (rf : RegFile) : (s.setRf rf).schedule = s.schedule := rfl

@[simp] theorem State.writeSys_rf (f : SysField) (v : Word) : (s.writeSys f v).rf = { s.rf with sys := s.rf.sys.write f v } := rfl
@[simp] theorem State.writeSys_psr (f : SysField) (v : Word) : (s.writeSys f v).psr = s.psr := rfl
@[simp] theorem State.writeSys_mpidSource (f : SysField) (v : Word) : (s.writeSys f v).mpidSource = s.mpidSource := rfl
@[simp] theorem State.writeSys_ext (f : SysField) (v : Word) : (s.writeSys f v).ext = s.ext := rfl
@[simp] theorem State.writeSys_faulted (f : SysField) (v : Word) : (s.writeSys f v).faulted = s.faulted := rfl
@[simp] theorem State.writeSys_faultInfo (f : SysField) (v : Word) : (s.writeSys f v).faultInfo = s.faultInfo := rfl
@[simp] theorem State.writeSys_cpuHalted (f : SysField) (v : Word) : (s.writeSys f v).cpuHalted = s.cpuHalted := rfl
@[simp] theorem State.writeSys_requests (f : SysField) (v : Word) : (s.writeSys f v).requests = s.requests := rfl
@[simp] theorem State.writeSys_responses (f : SysField) (v : Word) : (s.writeSys f v).responses = s.responses := rfl
@[simp] theorem State.writeSys_unanswered (f : SysField) (v : Word) : (s.writeSys f v).unanswered = s.unanswered := rfl
@[simp] theorem State.writeSys_schedule (f : SysField) (v : Word) : (s.writeSys f v).schedule = s.schedule := rfl

@[simp] theorem State.setPsr_rf (v : Word) : (s.setPsr v).rf = s.rf := rfl
@[simp] theorem State.setPsr_psr (v : Word) : (s.setPsr v).psr = v := rfl
@[simp] theorem State.setPsr_mpidSource (v : Word) : (s.setPsr v).mpidSource = s.mpidSource := rfl
@[simp] theorem State.setPsr_ext (v : Word) : (s.setPsr v).ext = s.ext := rfl
@[simp] theorem State.setPsr_faulted (v : Word) : (s.setPsr v).faulted = s.faulted := rfl
@[simp] theorem State.setPsr_faultInfo (v : Word) : (s.setPsr v).faultInfo = s.faultInfo := rfl
@[simp] theorem State.setPsr_cpuHalted (v : Word) : (s.setPsr v).cpuHalted = s.cpuHalted := rfl
@[simp] theorem State.setPsr_requests (v : Word) : (s.setPsr v).requests = s.requests := rfl
@[simp] theorem State.setPsr_responses (v : Word) : (s.setPsr v).responses = s.responses := rfl
@[simp] theorem State.setPsr_unanswered (v : Word) : (s.setPsr v).unanswered = s.unanswered := rfl
@[simp] theorem State.setPsr_schedule (v : Word) : (s.setPsr v).schedule = s.schedule := rfl

@[simp] theorem State.setExt_rf (e : Bool) : (s.setExt e).rf = s.rf := rfl
@[simp] theorem State.setExt_psr (e : Bool) : (s.setExt e).psr = s.psr := rfl
@[simp] theorem State.setExt_mpidSource (e : Bool) : (s.setExt e).mpidSource = s.mpidSource := rfl
@[simp] theorem State.setExt_ext (e : Bool) : (s.setExt e).ext = e := rfl
@[simp] theorem State.setExt_faulted (e : Bool) : (s.setExt e).faulted = s.faulted := rfl
@[simp] theorem State.setExt_faultInfo (e : Bool) : (s.setExt e).faultInfo = s.faultInfo := rfl
@[simp] theorem State.setExt_cpuHalted (e : Bool) : (s.setExt e).cpuHalted = s.cpuHalted := rfl
@[simp] theorem State.setExt_requests (e : Bool) : (s.setExt e).requests = s.requests := rfl
@[simp] theorem State.setExt_responses (e : Bool) : (s.setExt e).responses = s.responses := rfl
@[simp] theorem State.setExt_unanswered (e : Bool) : (s.setExt e).unanswered = s.unanswered := rfl
@[simp] theorem State.setExt_schedule (e : Bool) : (s.setExt e).schedule = s.schedule := rfl

@[simp] theorem State.retire_rf : (s.retire).rf = s.rf := rfl
@[simp] theorem State.retire_psr : (s.retire).psr = s.psr := rfl
@[simp] theorem State.retire_mpidSource : (s.retire).mpidSource = s.mpidSource := rfl
@[simp] theorem State.retire_ext : (s.retire).ext = s.ext := rfl
@[simp] theorem State.retire_faulted : (s.retire).faulted = s.faulted := rfl
@[simp] theorem State.retire_faultInfo : (s.retire).faultInfo = s.faultInfo := rfl
@[simp] theorem State.retire_cpuHalted : (s.retire).cpuHalted = s.cpuHalted := rfl
@[simp] theorem State.retire_requests : (s.retire).requests = s.requests.tail := rfl
@[simp] theorem State.retire_responses : (s.retire).responses = s.responses := rfl
@[simp] theorem State.retire_unanswered : (s.retire).unanswered = false := rfl
@[simp] theorem State.retire_schedule : (s.retire).schedule = s.schedule := rfl

@[simp] theorem State.respond_rf (r : Response) : (s.respond r).rf = s.rf := rfl
@[simp] theorem State.respond_psr (r : Response) : (s.respond r).psr = s.psr := rfl
@[simp] theorem State.respond_mpidSource (r : Response) : (s.respond r).mpidSource = s.mpidSource := rfl
@[simp] theorem State.respond_ext (r : Response) : (s.respond r).ext = s.ext := rfl
@[simp] theorem State.respond_faulted (r : Response) : (s.respond r).faulted = s.faulted := rfl
@[simp] theorem State.respond_faultInfo (r : Response) : (s.respond r).faultInfo = s.faultInfo := rfl
@[simp] theorem State.respond_cpuHalted (r : Response) : (s.respond r).cpuHalted = s.cpuHalted := rfl
@[simp] theorem State.respond_requests (r : Response) : (s.respond r).requests = s.requests.tail := rfl
@[simp] theorem State.respond_responses (r : Response) : (s.respond r).responses = r :: s.responses := rfl
@[simp] theorem State.respond_unanswered (r : Response) : (s.respond r).unanswered = false := rfl
@[simp] theorem State.respond_schedule (r : Response) : (s.respond r).schedule = s.schedule := rfl

@[simp] theorem State.raise_rf (f : ModelFault) : (s.raise f).rf = s.rf := rfl
@[simp] theorem State.raise_psr (f : ModelFault) : (s.raise f).psr = s.psr := rfl
@[simp] theorem State.raise_mpidSource (f : ModelFault) : (s.raise f).mpidSource = s.mpidSource := rfl
@[simp] theorem State.raise_ext (f : ModelFault) : (s.raise f).ext = s.ext := rfl
@[simp] theorem State.raise_faulted (f : ModelFault) : (s.raise f).faulted = true := rfl
@[simp] theorem State.raise_faultInfo (f : ModelFault) : (s.raise f).faultInfo = some f := rfl
@[simp] theorem State.raise_cpuHalted (f : ModelFault) : (s.raise f).cpuHalted = s.cpuHalted := rfl
@[simp] theorem State.raise_requests (f : ModelFault) : (s.raise f).requests = s.requests.tail := rfl
@[simp] theorem State.raise_responses (f : ModelFault) : (s.raise f).responses = s.responses := rfl
@[simp] theorem State.raise_unanswered (f : ModelFault) : (s.raise f).unanswered = true := rfl
@[simp] theorem State.raise_schedule (f : ModelFault) : (s.raise f).schedule = s.schedule := rfl

@[simp] theorem State.setSchedule_rf (l : List Turn) : (s.setSchedule l).rf = s.rf := rfl
@[simp] theorem State.setSchedule_psr (l : List Turn) : (s.setSchedule l).psr = s.psr := rfl
@[simp] theorem State.setSchedule_mpidSource (l : List Turn) : (s.setSchedule l).mpidSource = s.mpidSource := rfl
@[simp] theorem State.setSchedule_ext (l : List Turn) : (s.setSchedule l).ext = s.ext := rfl
@[simp] theorem State.setSchedule_faulted (l : List Turn) : (s.setSchedule l).faulted = s.faulted := rfl
@[simp] theorem State.setSchedule_faultInfo (l : List Turn) : (s.setSchedule l).faultInfo = s.faultInfo := rfl
@[simp] theorem State.setSchedule_cpuHalted (l : List Turn) : (s.setSchedule l).cpuHalted = s.cpuHalted := rfl
@[simp] theorem State.setSchedule_requests (l : List Turn) : (s.setSchedule l).requests = s.requests := rfl
@[simp] theorem State.setSchedule_responses (l : List Turn) : (s.setSchedule l).responses = s.responses := rfl
@[simp] theorem State.setSchedule_unanswered (l : List Turn) : (s.setSchedule l).unanswered = s.unanswered := rfl
@[simp] theorem State.setSchedule_schedule (l : List Turn) : (s.setSchedule l).schedule = l := rfl

@[simp] theorem State.cpuStores_rf (rf : RegFile) (p : Word) : (s.cpuStores rf p).rf = rf := rfl
@[simp] theorem State.cpuStores_psr (rf : RegFile) (p : Word) : (s.cpuStores rf p).psr = p &&& ~~~Config.psrReservedMask := rfl
@[simp] theorem State.cpuStores_mpidSource (rf : RegFile) (p : Word) : (s.cpuStores rf p).mpidSource = s.mpidSource := rfl
@[simp] theorem State.cpuStores_ext (rf : RegFile) (p : Word) : (s.cpuStores rf p).ext = s.ext := rfl
@[simp] theorem State.cpuStores_faulted (rf : RegFile) (p : Word) : (s.cpuStores rf p).faulted = s.faulted := rfl
@[simp] theorem State.cpuStores_faultInfo (rf : RegFile) (p : Word) : (s.cpuStores rf p).faultInfo = s.faultInfo := rfl
@[simp] theorem State.cpuStores_cpuHalted (rf : RegFile) (p : Word) : (s.cpuStores rf p).cpuHalted = s.cpuHalted := rfl
@[simp] theorem State.cpuStores_requests (rf : RegFile) (p : Word) : (s.cpuStores rf p).requests = s.requests := rfl
@[simp] theorem State.cpuStores_responses (rf : RegFile) (p : Word) : (s.cpuStores rf p).responses = s.responses := rfl
@[simp] theorem State.cpuStores_unanswered (rf : RegFile) (p : Word) : (s.cpuStores rf p).unanswered = s.unanswered := rfl
@[simp] theorem State.cpuStores_schedule (rf : RegFile) (p : Word) : (s.cpuStores rf p).schedule = s.schedule := rfl

@[simp] theorem State.resetBlock_rf : (s.resetBlock).rf = s.rf := rfl
@[simp] theorem State.resetBlock_psr : (s.resetBlock).psr = s.psr := rfl
@[simp] theorem State.resetBlock_mpidSource : (s.resetBlock).mpidSource = s.mpidSource := rfl
@[simp] theorem State.resetBlock_ext : (s.resetBlock).ext = Config.extInit := rfl
@[simp] theorem State.resetBlock_faulted : (s.resetBlock).faulted = false := rfl
@[simp] theorem State.resetBlock_faultInfo : (s.resetBlock).faultInfo = none := rfl
@[simp] theorem State.resetBlock_cpuHalted : (s.resetBlock).cpuHalted = s.cpuHalted := rfl
@[simp] theorem State.resetBlock_requests : (s.resetBlock).requests = s.requests := rfl
@[simp] theorem State.resetBlock_responses : (s.resetBlock).responses = s.responses := rfl
@[simp] theorem State.resetBlock_unanswered : (s.resetBlock).unanswered = s.unanswered := rfl
@[simp] theorem State.resetBlock_schedule : (s.resetBlock).schedule = s.schedule := rfl

@[simp] theorem State.applyPsr_rf (v : Word) : (s.applyPsr v).rf = Config.psrWriteEffect s.rf v := rfl
@[simp] theorem State.applyPsr_psr (v : Word) : (s.applyPsr v).psr = psrApplied v := rfl
@[simp] theorem State.applyPsr_mpidSource (v : Word) : (s.applyPsr v).mpidSource = s.mpidSource := rfl
@[simp] theorem State.applyPsr_ext (v : Word) : (s.applyPsr v).ext = s.ext := rfl
@[simp] theorem State.applyPsr_faulted (v : Word) : (s.applyPsr v).faulted = s.faulted := rfl
@[simp] theorem State.applyPsr_faultInfo (v : Word) : (s.applyPsr v).faultInfo = s.faultInfo := rfl
@[simp] theorem State.applyPsr_cpuHalted (v : Word) : (s.applyPsr v).cpuHalted = s.cpuHalted := rfl
@[simp] theorem State.applyPsr_requests (v : Word) : (s.applyPsr v).requests = s.requests := rfl
@[simp] theorem State.applyPsr_responses (v : Word) : (s.applyPsr v).responses = s.responses := rfl
@[simp] theorem State.applyPsr_unanswered (v : Word) : (s.applyPsr v).unanswered = s.unanswered := rfl
@[simp] theorem State.applyPsr_schedule (v : Word) : (s.applyPsr v).schedule = s.schedule := rfl

@[simp] theorem State.place_rf (r : Request) (e : Bool) : (s.place r e).rf = s.rf := rfl
@[simp] theorem State.place_psr (r : Request) (e : Bool) : (s.place r e).psr = s.psr := rfl
@[simp] theorem State.place_mpidSource (r : Request) (e : Bool) : (s.place r e).mpidSource = s.mpidSource := rfl
@[simp] theorem State.place_ext (r : Request) (e : Bool) : (s.place r e).ext = e := rfl
@[simp] theorem State.place_faulted (r : Request) (e : Bool) : (s.place r e).faulted = false := rfl
@[simp] theorem State.place_faultInfo (r : Request) (e : Bool) : (s.place r e).faultInfo = none := rfl
@[simp] theorem State.place_cpuHalted (r : Request) (e : Bool) : (s.place r e).cpuHalted = true := rfl
@[simp] theorem State.place_requests (r : Request) (e : Bool) : (s.place r e).requests = r :: s.requests := rfl
@[simp] theorem State.place_responses (r : Request) (e : Bool) : (s.place r e).responses = s.responses := rfl
@[simp] theorem State.place_unanswered (r : Request) (e : Bool) : (s.place r e).unanswered = s.unanswered := rfl
@[simp] theorem State.place_schedule (r : Request) (e : Bool) : (s.place r e).schedule = .serve :: s.schedule := rfl

end Sys2Proof.Machine
end

