-- ==== Sys2Proof/Laws/Access.lean ====
section
/-! SUPPORT. Everything the gate and the two common entries can do, said once: cite these instead of unfolding them. -/

namespace Sys2Proof.Machine

variable {s t : State} {idx : Int}

theorem gate_faulted (h : s.faulted = true) (k : Result) : gate s k = .fault .quiescent := by simp [gate, h]

theorem gate_held (h : s.faulted = false) (hc : s.cpuHalted = false) (k : Result) : gate s k = .next s := by
  simp [gate, h, hc]

theorem gate_ready (h : Ready s) (k : Result) : gate s k = k := by simp [gate, h.1, h.2]

/-- The gate answers a next state only unfaulted, and then either holds or goes on. -/
theorem gate_next {k : Result} (h : gate s k = .next t) :
    s.faulted = false ∧ (s.cpuHalted = false ∧ t = s ∨ s.cpuHalted = true ∧ k = .next t) := by
  cases hf : s.faulted <;> cases hc : s.cpuHalted <;> simp_all [gate]

theorem readAccess_ready {op : Buffer → Buffer × Nat} (h : Ready s) (hb : 12 ≤ s.rbuf.length) :
    readAccess idx op s = .next (s.respond (.read (op s.rbuf).2 (op s.rbuf).1)) := by
  have : ¬ s.rbuf.length < Config.readBufMin := by simpa [Config.readBufMin] using hb
  rw [readAccess, gate_ready h, if_neg this]

theorem readAccess_short {op : Buffer → Buffer × Nat} (h : Ready s) (hb : s.rbuf.length < 12) :
    readAccess idx op s = .next (s.raise (.readBufferSmall s.rbuf.length idx)) := by
  rw [readAccess, gate_ready h, if_pos (by simpa [Config.readBufMin] using hb)]

/-- A read answers a next state in three ways: held, a model fault, or performed. -/
theorem readAccess_next {op : Buffer → Buffer × Nat} (h : readAccess idx op s = .next t) :
    s.faulted = false ∧ (s.cpuHalted = false ∧ t = s ∨
      s.cpuHalted = true ∧ s.rbuf.length < 12 ∧ t = s.raise (.readBufferSmall s.rbuf.length idx) ∨
      s.cpuHalted = true ∧ 12 ≤ s.rbuf.length ∧ t = s.respond (.read (op s.rbuf).2 (op s.rbuf).1)) := by
  obtain ⟨hf, ⟨hc, rfl⟩ | ⟨hc, h⟩⟩ := gate_next h
  · exact ⟨hf, .inl ⟨hc, rfl⟩⟩
  · refine ⟨hf, .inr ?_⟩
    split at h <;> rename_i hb <;> simp only [Config.readBufMin] at hb <;> cases h
    · exact .inl ⟨hc, hb, rfl⟩
    · exact .inr ⟨hc, by omega, rfl⟩

theorem writeAccess_ready {op : Word → State → State × Nat} {v : Word} (h : Ready s) (hv : memRead s.wbuf = some v) :
    writeAccess idx op s = .next ((op v s).1.respond (.write (op v s).2)) := by
  simp only [writeAccess, gate_ready h, hv]

theorem writeAccess_short {op : Word → State → State × Nat} (h : Ready s) (hb : s.wbuf.length < 4) :
    writeAccess idx op s = .next (s.raise (.writeBufferShort s.wbuf.length idx)) := by
  simp only [writeAccess, gate_ready h, memRead_eq_none.2 hb]

/-- A write answers a next state in three ways: held, a model fault, or performed. -/
theorem writeAccess_next {op : Word → State → State × Nat} (h : writeAccess idx op s = .next t) :
    s.faulted = false ∧ (s.cpuHalted = false ∧ t = s ∨
      s.cpuHalted = true ∧ s.wbuf.length < 4 ∧ t = s.raise (.writeBufferShort s.wbuf.length idx) ∨
      s.cpuHalted = true ∧ ∃ v, memRead s.wbuf = some v ∧ t = (op v s).1.respond (.write (op v s).2)) := by
  obtain ⟨hf, ⟨hc, rfl⟩ | ⟨hc, h⟩⟩ := gate_next h
  · exact ⟨hf, .inl ⟨hc, rfl⟩⟩
  · refine ⟨hf, .inr ?_⟩
    split at h <;> cases h
    · exact .inl ⟨hc, memRead_eq_none.1 ‹_›, rfl⟩
    · exact .inr ⟨hc, _, ‹_›, rfl⟩

/-- The read buffer of a state whose first request is a read. -/
theorem rbuf_read {b : Buffer} {l : List Request} (h : s.requests = .read idx b :: l) : s.rbuf = b := by
  simp [State.rbuf, h]

/-- The write bytes of a state whose first request is a write. -/
theorem wbuf_write {b : Buffer} {l : List Request} (h : s.requests = .write idx b :: l) : s.wbuf = b := by
  simp [State.wbuf, h]

end Sys2Proof.Machine
end

