-- ==== Sys2Proof/Laws/PerInstr.lean ====
section
/-! SUPPORT. A law of every operation as syntax: its index, primitive and mode lead back to it through the resolver. -/

namespace Sys2Proof.Laws.IndexRole

open Sys2Proof

/-- The operation that the resolver selects for a well-formed operation's own index, primitive and mode is that operation
(30_encoding.md R61, R65). SESSION_BEGIN has no index (42_session.md R130). -/
def Statement (i : Instr) : Prop :=
  ∀ (ext : Bool) (idx : Int), i.wellFormed = true → i.modeBit.getD ext = ext → i.index = some idx →
    roleInstr i.isWrite ext idx (resolve idx) = i

/-- Outside the defined indices the role is unknown. -/
theorem resolve_undefined {idx : Int} (h : definedIndex idx = false) : resolve idx = .unknown := by
  have h' : ¬ (0 ≤ idx ∧ idx ≤ 34) := by simpa [definedIndex] using h
  unfold resolve
  rw [if_neg (by omega), if_neg (by omega), if_neg (by omega), if_neg (by omega), if_neg (by omega)]

theorem rdGpr (n : Fin 16) : Statement (.rdGpr n) := by
  rintro ext idx - - ⟨⟩
  revert n; revert ext; decide

theorem rdFpx (k : Fin 8) : Statement (.rdFpx k) := by
  rintro ext idx - hm ⟨⟩
  cases (show (false : Bool) = ext from hm)
  revert k; decide

theorem rdFpxX (k : Fin 8) : Statement (.rdFpxX k) := by
  rintro ext idx - hm ⟨⟩
  cases (show (true : Bool) = ext from hm)
  revert k; decide

theorem rdFps : Statement .rdFps := by
  rintro ext idx - hm ⟨⟩
  cases (show (false : Bool) = ext from hm)
  rfl

theorem rdFpsX : Statement .rdFpsX := by
  rintro ext idx - hm ⟨⟩
  cases (show (true : Bool) = ext from hm)
  rfl

theorem rdPsr : Statement .rdPsr := by
  rintro ext idx - - ⟨⟩
  rfl

theorem rdPid : Statement .rdPid := by
  rintro ext idx - - ⟨⟩
  rfl

theorem rdCpctl : Statement .rdCpctl := by
  rintro ext idx - - ⟨⟩
  rfl

theorem rdMask : Statement .rdMask := by
  rintro ext idx - - ⟨⟩
  rfl

theorem rdBasemask : Statement .rdBasemask := by
  rintro ext idx - - ⟨⟩
  rfl

theorem rdData : Statement .rdData := by
  rintro ext idx - - ⟨⟩
  rfl

theorem rdInsn : Statement .rdInsn := by
  rintro ext idx - - ⟨⟩
  rfl

theorem rdFsr : Statement .rdFsr := by
  rintro ext idx - - ⟨⟩
  rfl

theorem rdMpid : Statement .rdMpid := by
  rintro ext idx - - ⟨⟩
  rfl

theorem rdElr : Statement .rdElr := by
  rintro ext idx - - ⟨⟩
  rfl

theorem rdUnk (idx : Int) : Statement (.rdUnk idx) := by
  rintro ext idx' hw - ⟨⟩
  rw [resolve_undefined (by simpa [Instr.wellFormed] using hw)]
  rfl

theorem wrGpr (n : Fin 16) : Statement (.wrGpr n) := by
  rintro ext idx hw - ⟨⟩
  revert hw; revert n; revert ext; decide

theorem wrPc : Statement .wrPc := by
  rintro ext idx - - ⟨⟩
  rfl

theorem wrFpx (k : Fin 8) : Statement (.wrFpx k) := by
  rintro ext idx - hm ⟨⟩
  cases (show (false : Bool) = ext from hm)
  revert k; decide

theorem wrFpxX (k : Fin 8) : Statement (.wrFpxX k) := by
  rintro ext idx - hm ⟨⟩
  cases (show (true : Bool) = ext from hm)
  revert k; decide

theorem wrFps : Statement .wrFps := by
  rintro ext idx - hm ⟨⟩
  cases (show (false : Bool) = ext from hm)
  rfl

theorem wrFpsX : Statement .wrFpsX := by
  rintro ext idx - hm ⟨⟩
  cases (show (true : Bool) = ext from hm)
  rfl

theorem wrPsr : Statement .wrPsr := by
  rintro ext idx - - ⟨⟩
  rfl

theorem wrPid : Statement .wrPid := by
  rintro ext idx - - ⟨⟩
  rfl

theorem wrCpctl : Statement .wrCpctl := by
  rintro ext idx - - ⟨⟩
  rfl

theorem wrMask : Statement .wrMask := by
  rintro ext idx - - ⟨⟩
  rfl

theorem wrBasemask : Statement .wrBasemask := by
  rintro ext idx - - ⟨⟩
  rfl

theorem wrData : Statement .wrData := by
  rintro ext idx - - ⟨⟩
  rfl

theorem wrInsn : Statement .wrInsn := by
  rintro ext idx - - ⟨⟩
  rfl

theorem wrFsr : Statement .wrFsr := by
  rintro ext idx - - ⟨⟩
  rfl

theorem wrMpid : Statement .wrMpid := by
  rintro ext idx - - ⟨⟩
  rfl

theorem wrElr : Statement .wrElr := by
  rintro ext idx - - ⟨⟩
  rfl

theorem wrUnk (idx : Int) : Statement (.wrUnk idx) := by
  rintro ext idx' hw - ⟨⟩
  rw [resolve_undefined (by simpa [Instr.wellFormed] using hw)]
  rfl

theorem sessionBegin (e : Bool) : Statement (.sessionBegin e) := by
  rintro ext idx - - ⟨⟩

end Sys2Proof.Laws.IndexRole
end

