-- ==== Sys2Proof/Laws/Decode.lean ====
section
/-! SUPPORT. The decode key bit by bit, which keys the rows of the operation map select, and the bytes of a key. -/

namespace Sys2Proof

/-- The bits of a key: IDX below, then X, then W (30_encoding.md R64). -/
theorem mkKey_getLsbD (w x : Bool) (v : BitVec 32) (i : Nat) :
    (mkKey w x v).getLsbD i = if i < 32 then v.getLsbD i else if i = 32 then x else decide (i = 33) && w := by
  show (BitVec.ofBool w ++ BitVec.ofBool x ++ v : BitVec (1 + 1 + 32)).getLsbD i = _
  rw [BitVec.getLsbD_append, BitVec.getLsbD_append]
  by_cases h : i < 32
  · simp [h]
  · obtain ⟨j, rfl⟩ : ∃ j, i = 32 + j := ⟨i - 32, by omega⟩
    rcases j with _ | _ | j
    · simp
    · simp
    · simp; omega

/-- The low 32 bits of a key are IDX. -/
theorem mkKey_lo (w x : Bool) (v : BitVec 32) : (mkKey w x v).extractLsb' 0 32 = v := by
  ext i hi
  rw [BitVec.getElem_extractLsb', mkKey_getLsbD]
  simp [hi, BitVec.getLsbD_eq_getElem]

/-- A key is made of its three parts. -/
theorem key_eq_mkKey (k : Key) : k = mkKey (k.getLsbD 33) (k.getLsbD 32) (k.extractLsb' 0 32) := by
  apply BitVec.eq_of_getLsbD_eq
  intro i hi
  rw [mkKey_getLsbD, BitVec.getLsbD_extractLsb']
  by_cases h : i < 32
  · simp [h]
  · obtain rfl | rfl : i = 32 ∨ i = 33 := by omega
    · simp
    · simp

/-- A field of a masked key is the masked field. -/
theorem key_and_low (k m : Key) : (k &&& m).extractLsb' 0 32 = k.extractLsb' 0 32 &&& m.extractLsb' 0 32 := by
  ext i hi; simp

/-- The mask that ignores four bits fixes the rest of the number. -/
theorem and_mask4_div (v : BitVec 32) (c : BitVec 32) (h : v &&& 0xFFFFFFF0#32 = c) : v.toNat / 16 = c.toNat / 16 := by
  have e : v >>> 4 = c >>> 4 := by
    rw [← h]; ext i hi
    have : (0xFFFFFFF0#32).getLsbD (4 + i) = decide (4 + i < 32) := by
      interval_cases i <;> rfl
    simp [this]; intro hh; exact BitVec.lt_of_getLsbD hh
  have := congrArg BitVec.toNat e
  simpa [BitVec.toNat_ushiftRight, Nat.shiftRight_eq_div_pow] using this

/-- The mask that ignores three bits fixes the rest of the number. -/
theorem and_mask3_div (v : BitVec 32) (c : BitVec 32) (h : v &&& 0xFFFFFFF8#32 = c) : v.toNat / 8 = c.toNat / 8 := by
  have e : v >>> 3 = c >>> 3 := by
    rw [← h]; ext i hi
    have : (0xFFFFFFF8#32).getLsbD (3 + i) = decide (3 + i < 32) := by
      interval_cases i <;> rfl
    simp [this]; intro hh; exact BitVec.lt_of_getLsbD hh
  have := congrArg BitVec.toNat e
  simpa [BitVec.toNat_ushiftRight, Nat.shiftRight_eq_div_pow] using this

/-- Every row but the two for undefined indices selects only keys whose IDX is at most IDX_MAX. -/
theorem row_selects_index_le (r : KeyRow) (hr : r ∈ readRows ++ writeRows) (k : Key) (h : r.selects k = true) :
    (k.extractLsb' 0 32).toNat ≤ 34 := by
  have h1 : k &&& r.mask = r.pattern := by
    have := (Bool.and_eq_true_iff.1 h).1
    exact beq_iff_eq.1 this
  have h2 := congrArg (BitVec.extractLsb' 0 32) h1
  rw [key_and_low] at h2
  generalize k.extractLsb' 0 32 = v at h2
  have bound : ∀ m c : BitVec 32, v &&& m = c →
      (m = 0xFFFFFFFF#32 ∧ c.toNat ≤ 34 ∨ m = 0xFFFFFFF0#32 ∧ c.toNat ≤ 15 ∨ m = 0xFFFFFFF8#32 ∧ c.toNat ≤ 31) →
      v.toNat ≤ 34 := by
    rintro m c h (⟨rfl, hc⟩ | ⟨rfl, hc⟩ | ⟨rfl, hc⟩)
    · have : v = c := by
        rw [← h]; exact (BitVec.and_allOnes (x := v)).symm
      subst this; exact hc
    · have := and_mask4_div v c h; omega
    · have := and_mask3_div v c h; omega
  refine bound _ _ h2 ?_
  revert hr; clear h h1 h2 bound
  revert r
  decide

/-- A key whose IDX, unsigned, is above IDX_MAX selects RD_UNK or WR_UNK. -/
theorem decodeKey_high (k : Key) (h : 34 < (k.extractLsb' 0 32).toNat) : decodeKey k = unknownInstr k := by
  have : (readRows ++ writeRows).find? (fun r => r.selects k) = none := by
    rw [List.find?_eq_none]
    intro r hr hs
    have := row_selects_index_le r hr k hs
    omega
  unfold decodeKey; rw [this]

/-- The keys of the defined indices select what the resolver and the mode flag do. -/
theorem decodeKey_defined : ∀ (w x : Bool) (n : Fin 35),
    decodeKey (mkKey w x (BitVec.ofNat 32 n.val)) = roleInstr w x n.val (resolve n.val) := by decide

/-- The undefined-index rows test bit W alone. -/
theorem unknownInstr_mkKey (w x : Bool) (v : BitVec 32) :
    unknownInstr (mkKey w x v) = if w then .wrUnk v.toInt else .rdUnk v.toInt := by
  unfold unknownInstr keyIndex
  rw [mkKey_lo]
  have : (mkKey w x v &&& 0x200000000 = 0x200000000) ↔ w = true := by
    constructor
    · intro h
      have := congrArg (fun z : Key => z.getLsbD 33) h
      rw [BitVec.getLsbD_and, mkKey_getLsbD] at this
      simpa using this
    · rintro rfl
      ext i hi
      by_cases h33 : i = 33
      · subst h33
        rw [BitVec.getElem_and, ← BitVec.getLsbD_eq_getElem, mkKey_getLsbD]; rfl
      · have : (0x200000000#34).getLsbD i = false := by interval_cases i <;> first | rfl | exact absurd rfl h33
        rw [BitVec.getElem_and]
        simp [BitVec.getLsbD_eq_getElem, hi] at this
        simp [this]
  cases w <;> simp_all

/-- The five bytes of a key. -/
theorem keyBytes_eq (k : Key) : keyBytes k =
      [k.extractLsb' 0 8, k.extractLsb' 8 8, k.extractLsb' 16 8, k.extractLsb' 24 8, (k.extractLsb' 32 2).zeroExtend 8] := by
  have hk := k.isLt
  simp only [keyBytes, natBytes, List.cons.injEq, and_true]
  refine ⟨?_, ?_, ?_, ?_, ?_⟩ <;> apply BitVec.eq_of_toNat_eq <;> simp [BitVec.extractLsb'_toNat, Nat.shiftRight_eq_div_pow] <;> omega

end Sys2Proof
end

