-- ==== Sys2Proof/Laws/Exec.lean ====
section
/-! SUPPORT. What an operation is: every arm of `exec` as one of the two common entries with its own inner operation, and every
arm behind the gate. Cite these instead of splitting the 34 arms. -/

namespace Sys2Proof.Machine

/-- Every read is the common read entry at its index; the inner operation emits the location it names, or, naming none, nothing,
the word 0, or the placeholder. -/
theorem exec_read_form (i : Instr) (idx : Int) (hi : i.index = some idx) (hw : i.isWrite = false) :
    ∃ op : State → Buffer → Buffer × Nat, (∀ s, exec i s = readAccess idx (op s) s) ∧
      ((∃ l : Loc, i.location = some l ∧ ∀ s, op s = emitWord (s.readLoc l)) ∨
        (i.location = none ∧
          ((∀ s, op s = emitNothing) ∨ (∀ s, op s = emitWord 0) ∨ (∀ s, op s = emitPlaceholder)))) := by
  cases i <;> simp only [Instr.isWrite, Bool.true_eq_false] at hw <;> cases hi
  case rdGpr n => exact ⟨fun s => emitWord (s.readLoc (.x n)), fun s => rfl, .inl ⟨(.x n), rfl, fun s => rfl⟩⟩
  case rdPsr => exact ⟨fun s => emitWord (s.readLoc .psr), fun s => rfl, .inl ⟨.psr, rfl, fun s => rfl⟩⟩
  case rdPid => exact ⟨fun s => emitWord (s.readLoc (.sys .pid)), fun s => rfl, .inl ⟨(.sys .pid), rfl, fun s => rfl⟩⟩
  case rdCpctl => exact ⟨fun s => emitWord (s.readLoc (.sys .cpctl)), fun s => rfl, .inl ⟨(.sys .cpctl), rfl, fun s => rfl⟩⟩
  case rdMask => exact ⟨fun s => emitWord (s.readLoc (.sys .mask)), fun s => rfl, .inl ⟨(.sys .mask), rfl, fun s => rfl⟩⟩
  case rdBasemask => exact ⟨fun s => emitWord (s.readLoc (.sys .basemask)), fun s => rfl, .inl ⟨(.sys .basemask), rfl, fun s => rfl⟩⟩
  case rdData => exact ⟨fun s => emitWord (s.readLoc (.sys .data)), fun s => rfl, .inl ⟨(.sys .data), rfl, fun s => rfl⟩⟩
  case rdInsn => exact ⟨fun s => emitWord (s.readLoc (.sys .insn)), fun s => rfl, .inl ⟨(.sys .insn), rfl, fun s => rfl⟩⟩
  case rdFsr => exact ⟨fun s => emitWord (s.readLoc (.sys .fsr)), fun s => rfl, .inl ⟨(.sys .fsr), rfl, fun s => rfl⟩⟩
  case rdMpid => exact ⟨fun s => emitWord (s.readLoc (.sys .mpid)), fun s => rfl, .inl ⟨(.sys .mpid), rfl, fun s => rfl⟩⟩
  case rdElr => exact ⟨fun s => emitWord (s.readLoc (.sys .elr)), fun s => rfl, .inl ⟨(.sys .elr), rfl, fun s => rfl⟩⟩
  case rdFps => exact ⟨fun s => emitWord 0, fun s => rfl, .inr ⟨rfl, .inr (.inl fun s => rfl)⟩⟩
  case rdFpx => exact ⟨fun s => emitPlaceholder, fun s => rfl, .inr ⟨rfl, .inr (.inr fun s => rfl)⟩⟩
  all_goals exact ⟨fun s => emitNothing, fun s => rfl, .inr ⟨rfl, .inl fun s => rfl⟩⟩

/-- Every write is the common write entry at its index; the inner operation discards the value, or writes the one location the
operation names. -/
theorem exec_write_form (i : Instr) (idx : Int) (hi : i.index = some idx) (hw : i.isWrite = true) :
    ∃ op : Word → State → State × Nat, (∀ s, exec i s = writeAccess idx op s) ∧
      ((i.location = none ∧ ∃ n, op = discard n) ∨
        (∃ n, i = .wrGpr n ∧ op = fun v t => (t.writeX n v, 4)) ∨
        (i = .wrPc ∧ op = fun v t => (t.writeX 15 (pcValue v), 4)) ∨
        (i = .wrPsr ∧ op = fun v t => (t.applyPsr v, 4)) ∨
        ∃ f, f ≠ SysField.mpid ∧ i.location = some (.sys f) ∧ op = fun v t => (t.writeSys f v, 4)) := by
  cases i <;> simp only [Instr.isWrite, Bool.false_eq_true] at hw <;> cases hi
  case wrGpr n => exact ⟨_, fun s => rfl, .inr (.inl ⟨n, rfl, rfl⟩)⟩
  case wrPc => exact ⟨_, fun s => rfl, .inr (.inr (.inl ⟨rfl, rfl⟩))⟩
  case wrPsr => exact ⟨_, fun s => rfl, .inr (.inr (.inr (.inl ⟨rfl, rfl⟩)))⟩
  all_goals first
    | exact ⟨_, fun s => rfl, .inl ⟨rfl, _, rfl⟩⟩
    | exact ⟨_, fun s => rfl, .inr (.inr (.inr (.inr ⟨_, by decide, rfl, rfl⟩)))⟩

/-- Every operation is behind the gate. -/
theorem exec_gate_form (i : Instr) : ∃ k : State → Result, ∀ s, exec i s = gate s (k s) := by
  cases i <;> exact ⟨_, fun s => rfl⟩

/-- Only SESSION_BEGIN has no index. -/
theorem eq_sessionBegin_of_index {i : Instr} (h : i.index = none) : ∃ e, i = .sessionBegin e := by
  cases i <;> simp [Instr.index] at h
  exact ⟨_, rfl⟩

end Sys2Proof.Machine
end

