-- ==== Sys2Proof/Laws/Run.lean ====
section
/-! SUPPORT. Everything a step can do, and runs of several steps one step at a time. -/

namespace Sys2Proof.Machine

variable {s t : State}

/-- The block's turn performs the operation its first request selects. -/
theorem step_of_request {r : Request} {l : List Request} (hs : s.schedule = []) (hr : s.requests = r :: l) :
    step s = exec (r.instr s.ext) s := by
  simp [step, hs, serve, hr]

/-- The block's turn answers a next state by idling or through an operation. -/
theorem serve_next (h : serve s = .next t) :
    s.requests = [] ∧ t = s ∨ ∃ r l, s.requests = r :: l ∧ exec (r.instr s.ext) s = .next t := by
  unfold serve at h
  split at h
  · cases h
    exact .inl ⟨by assumption, rfl⟩
  · exact .inr ⟨_, _, by assumption, h⟩

/-- A step is the block's turn or the environment's. -/
theorem step_next (h : step s = .next t) :
    (s.schedule = [] ∧ serve s = .next t) ∨
    (∃ rest, s.schedule = .serve :: rest ∧ serve (s.setSchedule rest) = .next t) ∨
    ∃ e rest, s.schedule = .env e :: rest ∧ t = (s.setSchedule rest).applyEnv e := by
  unfold step at h
  split at h
  · exact .inl ⟨by assumption, h⟩
  · exact .inr (.inl ⟨_, by assumption, h⟩)
  · cases h
    exact .inr (.inr ⟨_, _, by assumption, rfl⟩)

/-- No environment event touches MPID_SOURCE, the requests, the responses, or what was left unanswered. -/
theorem applyEnv_interface (e : EnvEvent) (s : State) :
    (s.applyEnv e).mpidSource = s.mpidSource ∧ (s.applyEnv e).requests = s.requests ∧
    (s.applyEnv e).responses = s.responses ∧ (s.applyEnv e).unanswered = s.unanswered := by
  cases e
  case cpuRuns => by_cases h : s.cpuHalted = true <;> simp [State.applyEnv, h]
  all_goals exact ⟨rfl, rfl, rfl, rfl⟩

/-- With no request left a step neither issues nor answers one. -/
theorem step_no_request (hr : s.requests = []) (h : step s = .next t) :
    t.requests = [] ∧ t.responses = s.responses ∧ t.unanswered = s.unanswered := by
  obtain ⟨-, h⟩ | ⟨rest, -, h⟩ | ⟨e, rest, -, rfl⟩ := step_next h
  · obtain ⟨-, rfl⟩ | ⟨r, l, h', -⟩ := serve_next h
    · exact ⟨hr, rfl, rfl⟩
    · exact absurd (hr.symm.trans h') (by simp)
  · obtain ⟨-, rfl⟩ | ⟨r, l, h', -⟩ := serve_next h
    · exact ⟨hr, rfl, rfl⟩
    · exact absurd (hr.symm.trans h') (by simp)
  · have := applyEnv_interface e (s.setSchedule rest)
    exact ⟨this.2.1.trans hr, this.2.2.1, this.2.2.2⟩

/-- The first step of a run of any machine. -/
theorem run_succ_of_next (M : Host.Core) (k : Nat) (u v : M.State) (h : M.step u = .next v) :
    M.run (k + 1) u = M.run k v := by
  rw [Host.Core.run, h]

/-- A run that answers a next state took a first step that did. -/
theorem run_succ_next (M : Host.Core) (k : Nat) (u v : M.State) (h : M.run (k + 1) u = .next v) :
    ∃ w, M.step u = .next w ∧ M.run k w = .next v := by
  rw [Host.Core.run] at h
  split at h
  · exact ⟨_, by assumption, h⟩
  · cases h
  · cases h

/-- A run of one step is that step. -/
theorem run_one (M : Host.Core) (u : M.State) : M.run 1 u = M.step u := by
  simp only [Host.Core.run]
  cases M.step u <;> rfl

/-- The first step of a run of this machine. -/
theorem core_run_succ (k : Nat) (h : step s = .next t) : core.run (k + 1) s = core.run k t :=
  run_succ_of_next core k s t h

end Sys2Proof.Machine
end

