-- ==== Sys2Proof/Tests/Slice0.lean ====
section
/-! SUPPORT. Tests of single steps against the spec's worked examples and vectors (95_test_vectors.md), the ill-formed terms,
keys written out bit by bit, and, for each statement with hypotheses, a witness that meets them all (witness_<statement>). -/

namespace Sys2Proof.Tests

open Sys2Proof Sys2Proof.Machine

/-! ### Small states and results -/

/-- The reset state with the CPU halted and these requests issued. -/
def halted (l : List Request) : State := { State.reset with cpuHalted := true, requests := l }

/-- The sentinel buffer of 95_test_vectors.md. -/
def aa (n : Nat) : Buffer := List.replicate n 0xAA

/-- The next state, where there is one. -/
def nextOf : Result → Option State
  | .next s => some s
  | .fault _ => none
  | .refused _ => none

/-- A halted state with one read issued at `idx`, 16 sentinel bytes. -/
def rd (idx : Int) : State := halted [.read idx (aa 16)]

/-- A halted state with one write issued at `idx`. -/
def wr (idx : Int) (b : Buffer) : State := halted [.write idx b]

/-- The responses after one step. -/
def resp (s : State) : Option (List Response) := (nextOf (step s)).map (·.responses)

/-- A general register after one step. -/
def xAfter (n : Fin 16) (s : State) : Option Word := (nextOf (step s)).map (·.readX n)

/-- A stored system field after one step. -/
def sysAfter (f : SysField) (s : State) : Option Word := (nextOf (step s)).map (·.readSys f)

/-- With the status word set. -/
def withPsr (v : Word) (s : State) : State := { s with psr := v }

/-- With the mode flag set. -/
def withExt (s : State) : State := { s with ext := true }

/-! ### Ill-formed terms are refused, and their neighbours are not (opcode_table.json, "constraint") -/

theorem test_wellFormed_refuses :
    (Instr.wrGpr 15).wellFormed = false ∧ (Instr.rdUnk 0).wellFormed = false ∧ (Instr.rdUnk 34).wellFormed = false ∧
    (Instr.wrUnk 15).wellFormed = false ∧ (Instr.wrUnk 33).wellFormed = false := by decide

theorem test_wellFormed_accepts :
    (Instr.wrGpr 14).wellFormed = true ∧ (Instr.rdGpr 15).wellFormed = true ∧ (Instr.rdUnk 35).wellFormed = true ∧
    (Instr.wrUnk (-1)).wellFormed = true := by decide

theorem test_encodable_bounds :
    (Instr.rdUnk 2147483647).encodable = true ∧ (Instr.rdUnk 2147483648).encodable = false ∧
    (Instr.wrUnk (-2147483648)).encodable = true ∧ (Instr.wrUnk (-2147483649)).encodable = false := by decide

/-! ### Keys written out bit by bit from the "encoding" of opcode_table.json -/

theorem test_decode_read_keys :
    decodeKey 0b0000000000000000000000000000001101 = .rdGpr 13 ∧
    decodeKey 0b0100000000000000000000000000000011 = .rdGpr 3 ∧
    decodeKey 0b0000000000000000000000000000010101 = .rdFpx 5 ∧
    decodeKey 0b0100000000000000000000000000010110 = .rdFpxX 6 ∧
    decodeKey 0b0000000000000000000000000000011000 = .rdFps ∧
    decodeKey 0b0100000000000000000000000000011000 = .rdFpsX ∧
    decodeKey 0b0000000000000000000000000000011001 = .rdPsr := by decide

theorem test_decode_read_sys_keys :
    decodeKey 0b0000000000000000000000000000011010 = .rdPid ∧
    decodeKey 0b0100000000000000000000000000011011 = .rdCpctl ∧
    decodeKey 0b0000000000000000000000000000011100 = .rdMask ∧
    decodeKey 0b0000000000000000000000000000011101 = .rdBasemask ∧
    decodeKey 0b0000000000000000000000000000011110 = .rdData ∧
    decodeKey 0b0000000000000000000000000000011111 = .rdInsn ∧
    decodeKey 0b0000000000000000000000000000100000 = .rdFsr ∧
    decodeKey 0b0000000000000000000000000000100001 = .rdMpid ∧
    decodeKey 0b0000000000000000000000000000100010 = .rdElr ∧
    decodeKey 0b0010000000000000000000000000000000 = .rdUnk (-2147483648) := by decide

theorem test_decode_write_keys :
    decodeKey 0b1000000000000000000000000000001110 = .wrGpr 14 ∧
    decodeKey 0b1000000000000000000000000000001111 = .wrPc ∧
    decodeKey 0b1000000000000000000000000000010001 = .wrFpx 1 ∧
    decodeKey 0b1100000000000000000000000000010111 = .wrFpxX 7 ∧
    decodeKey 0b1000000000000000000000000000011000 = .wrFps ∧
    decodeKey 0b1100000000000000000000000000011000 = .wrFpsX ∧
    decodeKey 0b1000000000000000000000000000011001 = .wrPsr := by decide

theorem test_decode_write_sys_keys :
    decodeKey 0b1000000000000000000000000000011010 = .wrPid ∧
    decodeKey 0b1000000000000000000000000000011011 = .wrCpctl ∧
    decodeKey 0b1000000000000000000000000000011100 = .wrMask ∧
    decodeKey 0b1000000000000000000000000000011101 = .wrBasemask ∧
    decodeKey 0b1000000000000000000000000000011110 = .wrData ∧
    decodeKey 0b1100000000000000000000000000011111 = .wrInsn ∧
    decodeKey 0b1000000000000000000000000000100000 = .wrFsr ∧
    decodeKey 0b1000000000000000000000000000100001 = .wrMpid ∧
    decodeKey 0b1000000000000000000000000000100010 = .wrElr ∧
    decodeKey 0b1011111111111111111111111111111001 = .wrUnk (-7) := by decide

/-- The bytes of WR_PC's key 0x30000000F, the SESSION byte, and the three rejections by name (log entry 15). -/
theorem test_decodeBytes :
    (decodeBytes [0x0F, 0, 0, 0, 3]).toOption = some .wrPc ∧ (decodeBytes [1]).toOption = some (.sessionBegin true) ∧
    decodeBytes [2] = .error .sessionTooWide ∧ decodeBytes [0, 0, 0, 0, 4] = .error .keyTooWide ∧
    decodeBytes [0, 0] = .error .badLength ∧ decodeTableWord 40 0x200000021 = some .wrMpid ∧
    decodeTableWord 8 1 = some (.sessionBegin true) ∧ decodeTableWord 40 0x400000000 = none :=
  ⟨by decide, by decide, rfl, rfl, rfl, by decide, by decide, by decide⟩

/-! ### The serializer (95_test_vectors.md section 2.1) -/

theorem test_serialize_12345678 : memWrite 0 0x12345678 (aa 5) = [0x78, 0x56, 0x34, 0x12, 0xAA] := by decide

theorem test_deserialize_deadbeef : memRead [0xEF, 0xBE, 0xAD, 0xDE, 0xFF] = some 0xDEADBEEF := by decide

/-! ### Reads (95_test_vectors.md section 2.3: V1 to V23) -/

theorem test_rdGpr_v1 :
    resp { rd 3 with rf := { State.reset.rf with x := State.reset.rf.x.set 3 0x12345678 } } =
      some [.read 4 ([0x78, 0x56, 0x34, 0x12] ++ aa 12)] := by decide

theorem test_rdGpr_pc_odd_v2 :
    resp { rd 15 with rf := { State.reset.rf with x := State.reset.rf.x.set 15 1 } } =
      some [.read 4 ([1, 0, 0, 0] ++ aa 12)] := by decide

theorem test_rdFpx_v4 : resp (rd 16) = some [.read 12 (List.replicate 12 0 ++ aa 4)] := by decide

theorem test_rdFpx_v23 : resp (halted [.read 16 (aa 12)]) = some [.read 12 (List.replicate 12 0)] := by decide

theorem test_rdFpxX_e2 : resp (withExt (rd 20)) = some [.read 0 (aa 16)] := by decide

theorem test_rdFps_v7 : resp (withPsr 0xFFFFFFFF (rd 24)) = some [.read 4 ([0, 0, 0, 0] ++ aa 12)] := by decide

theorem test_rdFpsX_v8 : resp (withExt (rd 24)) = some [.read 0 (aa 16)] := by decide

theorem test_rdPsr_v9 :
    resp (withExt (withPsr 0x600001D3 (rd 25))) = some [.read 4 ([0xD3, 0x01, 0x00, 0x60] ++ aa 12)] := by decide

/-- The field's own word and no other's: the eight hold eight values. -/
def eight : SysFields := ⟨0x12345678, 0x00050078, 0xFFFFC000, 0x0000FFFF, 0x00000001, 0x80000000, 0x00000805, 0x00008004⟩

/-- A read issued where the system fields are those eight. -/
def rdSys (idx : Int) : State := { rd idx with rf := { State.reset.rf with sys := eight } }

theorem test_rdPid_v10 : resp (rdSys 26) = some [.read 4 ([0x78, 0x56, 0x34, 0x12] ++ aa 12)] := by decide

theorem test_rdCpctl_v11 : resp (rdSys 27) = some [.read 4 ([0x78, 0x00, 0x05, 0x00] ++ aa 12)] := by decide

theorem test_rdMask_v12 : resp (rdSys 28) = some [.read 4 ([0x00, 0xC0, 0xFF, 0xFF] ++ aa 12)] := by decide

theorem test_rdBasemask_v13 : resp (rdSys 29) = some [.read 4 ([0xFF, 0xFF, 0x00, 0x00] ++ aa 12)] := by decide

theorem test_rdData_v14 : resp (rdSys 30) = some [.read 4 ([0x01, 0x00, 0x00, 0x00] ++ aa 12)] := by decide

theorem test_rdInsn_v15 : resp (rdSys 31) = some [.read 4 ([0x00, 0x00, 0x00, 0x80] ++ aa 12)] := by decide

theorem test_rdFsr_v16 : resp (rdSys 32) = some [.read 4 ([0x05, 0x08, 0x00, 0x00] ++ aa 12)] := by decide

/-- R94: LEN 4 and offsets 4 to 15 untouched; the word itself is a free value. -/
theorem test_rdMpid_v17 :
    (resp (rd 33)).map (·.map fun r => (r.len, match r with | .read _ b => b.drop 4 | .write _ => [])) =
      some [(4, aa 12)] := rfl

theorem test_rdElr_v18 : resp (rdSys 34) = some [.read 4 ([0x04, 0x80, 0x00, 0x00] ++ aa 12)] := by decide

theorem test_rdUnk_v19_v20 : resp (rd 35) = some [.read 0 (aa 16)] ∧ resp (rd (-1)) = some [.read 0 (aa 16)] := by decide

/-- An index wider than the key is unknown from the integer (30_encoding.md R64). -/
theorem test_rdUnk_wide : resp (rd 4294967296) = some [.read 0 (aa 16)] := by decide

/-- V22: `cap` = 8 faults, records `cap` and IDX, and gives no response. -/
theorem test_readBufferSmall_v22 :
    (nextOf (step (halted [.read 3 (aa 8)]))).map (fun s => (s.faulted, s.faultInfo, s.responses)) =
      some (true, some (.readBufferSmall 8 3), []) := by decide

/-! ### Writes (95_test_vectors.md section 2.4: W1 to W27) -/

theorem test_wrGpr_w2 : xAfter 14 (wr 14 [0x03, 0x10, 0, 0]) = some 0x00001003 := by decide

theorem test_wrGpr_w27 : xAfter 5 (wr 5 [1, 0, 0, 0, 0xFF, 0xFF]) = some 1 := by decide

theorem test_wrPc_w4 : xAfter 15 (wr 15 [3, 0, 0, 0]) = some 2 := by decide

theorem test_wrPc_w5 : xAfter 15 (wr 15 [0xFF, 0xFF, 0xFF, 0xFF]) = some 0xFFFFFFFE := by decide

theorem test_wrFpx_w8 : resp (wr 16 [1, 2, 3, 4]) = some [.write 12] := by decide

theorem test_wrFpxX_w9 : resp (withExt (wr 23 [0, 0, 0, 0])) = some [.write 0] := by decide

theorem test_wrFps_w10 :
    (nextOf (step (withPsr 0x10 (wr 24 [0xFF, 0xFF, 0xFF, 0xFF])))).map (fun s => (s.psr, s.responses)) =
      some (0x10, [.write 4]) := by decide

theorem test_wrFpsX_w11 : resp (withExt (wr 24 [0, 0, 0, 0])) = some [.write 0] := by decide

/-- W13's rule, R107: `V & ~PSR_RESERVED_MASK`, whatever the mask. -/
theorem test_wrPsr_w13 :
    (nextOf (step (wr 25 [0xD3, 0x01, 0xFF, 0x60]))).map (·.psr) = some (0x60FF01D3 &&& ~~~Config.psrReservedMask) := rfl

theorem test_wrPid_w14 : sysAfter .pid (wr 26 [0x78, 0x56, 0x34, 0x12]) = some 0x12345678 := by decide

theorem test_wrCpctl_w15 : sysAfter .cpctl (wr 27 [0x78, 0x00, 0x05, 0x00]) = some 0x00050078 := by decide

theorem test_wrMask_w16 :
    sysAfter .mask (wr 28 [0x00, 0xC0, 0xFF, 0xFF]) = some 0xFFFFC000 ∧
    sysAfter .basemask (wr 28 [0x00, 0xC0, 0xFF, 0xFF]) = some 0 := by decide

theorem test_wrBasemask_w17 :
    sysAfter .basemask { wr 29 [0, 0, 0, 0] with rf := { State.reset.rf with sys := eight } } = some 0 := by decide

theorem test_wrData_w18 : sysAfter .data (wr 30 [1, 0, 0, 0]) = some 1 := by decide

theorem test_wrInsn_w19 : sysAfter .insn (wr 31 [0, 0, 0, 0x80]) = some 0x80000000 := by decide

theorem test_wrFsr_w20 : sysAfter .fsr (wr 32 [0x05, 0x08, 0, 0]) = some 0x00000805 := by decide

theorem test_wrMpid_w21 : resp (wr 33 [0xFF, 0xFF, 0xFF, 0xFF]) = some [.write 0] := by decide

theorem test_wrElr_w22 : sysAfter .elr (wr 34 [0x05, 0x80, 0, 0]) = some 0x00008005 := by decide

theorem test_wrUnk_w23_w24 : resp (wr 35 [1, 2, 3, 4]) = some [.write 0] ∧ resp (wr (-7) [1, 2, 3, 4]) = some [.write 0] := by
  decide

/-- W26: a short write faults before decode, also at an undefined index. -/
theorem test_writeBufferShort_w26 :
    (nextOf (step (wr 35 [1]))).map (fun s => (s.faulted, s.faultInfo, s.responses)) =
      some (true, some (.writeBufferShort 1 35), []) := by decide

/-! ### Session, hold, stickiness, reset (95_test_vectors.md S1, S2, H1 to H3) -/

theorem test_session_s2 : (nextOf (step (halted [.session true]))).map (fun s => (s.ext, s.responses)) = some (true, []) := by
  decide

theorem test_ext_init_s1 : (resp (rd 20)).map (·.map Response.len) = some [12] := by decide

theorem test_held_h1 : nextOf (step { rd 3 with cpuHalted := false }) = some { rd 3 with cpuHalted := false } := by decide

/-- The fault reason of a stopped step. -/
def stopOf : Result → Option Fault
  | .next _ => none
  | .fault r => some r
  | .refused _ => none

theorem test_faulted_no_step_h2 : stopOf (step { rd 3 with faulted := true }) = some .quiescent := by decide

theorem test_block_reset_h3 :
    (nextOf (step { wr 3 [0xAA, 0xBB] with
      faulted := true, ext := true, rf := { State.reset.rf with x := State.reset.rf.x.set 3 0x11111111 },
      schedule := [.env .resetBlock] })).map (fun s => (s.faulted, s.ext, s.readX 3)) = some (false, false, 0x11111111) := by
  decide

/-- R168: the last request faulted, so it has had no response; a reset of the block afterwards makes that no normal end. A
session request that follows is answered by nothing, and the run has then ended normally. -/
theorem test_normalEnd_r168 :
    (nextOf (core.run 2 { wr 3 [0xAA, 0xBB] with schedule := [.serve, .env .resetBlock] })).map
      (fun s => (s.requests, s.faulted, s.unanswered)) = some ([], false, true) ∧
    (nextOf (core.run 3 { halted [.write 3 [0xAA], .session true] with schedule := [.serve, .env .resetBlock] })).map
      (fun s => (s.requests, s.faulted, s.unanswered)) = some ([], false, false) := by decide

/-- The first instruction after reset is the one whose key is placed: WR_FPX_X asks for ext = 1. -/
theorem test_withFetchWord : resp (State.reset.withFetchWord 40 0x300000014) = some [.write 0] := by decide

/-! ### Witnesses: the hypotheses of each statement, met together -/

/-- Twelve bytes, the least capacity, and a ready state. -/
def r12 (idx : Int) : State := halted [.read idx (aa 12)]

/-- Four bytes, the least length, and a ready state. -/
def w4 (idx : Int) : State := wr idx [0xEF, 0xBE, 0xAD, 0xDE]

/-- A write and then a read of one index. -/
def wrRd (idx : Int) : State := halted [.write idx [0xEF, 0xBE, 0xAD, 0xDE], .read idx (aa 12)]

/-- A request held, and the controller's halt next. -/
def heldState : State := { State.reset with requests := [.read 3 (aa 12)], schedule := [.env .haltCpu] }

/-- Two reads of one index with two others between them. -/
def rdRd : State := halted [.read 24 (aa 12), .read 35 (aa 12), .read 16 (aa 14), .read 24 (aa 13)]

theorem witness_DecodeEncodeRoundTrip :
    (Instr.wrGpr 14).wellFormed = true ∧ (Instr.wrGpr 14).encodable = true ∧
    (Instr.rdUnk (-2147483648)).wellFormed = true ∧ (Instr.rdUnk (-2147483648)).encodable = true ∧
    (Instr.wrUnk 35).wellFormed = true ∧ (Instr.wrUnk 35).encodable = true := by decide

theorem witness_ResolverClassifiesEveryIndex :
    ((-1 : Int) < 0 ∨ 34 < (-1 : Int)) ∧ ((35 : Int) < 0 ∨ 34 < (35 : Int)) := by decide

theorem witness_SerializeWordLittleEndian :
    4 ≤ (aa 4).length := by decide

theorem witness_DeserializeWordLittleEndian :
    4 ≤ (aa 4).length := by decide

theorem witness_RdGprResult : Ready (r12 15) ∧ 12 ≤ (r12 15).rbuf.length := by decide

theorem witness_RdFpxResult :
    Ready (r12 16) ∧ 12 ≤ (r12 16).rbuf.length := by decide

theorem witness_RdAbsentResult :
    Ready (r12 24) ∧ 12 ≤ (r12 24).rbuf.length := by decide

theorem witness_RdFpsResult :
    Ready (r12 24) ∧ 12 ≤ (r12 24).rbuf.length := by decide

theorem witness_RdStoredSysResult :
    Ready (r12 34) ∧ 12 ≤ (r12 34).rbuf.length := by decide

theorem witness_RdMpidResult :
    Ready (r12 33) ∧ 12 ≤ (r12 33).rbuf.length := by decide

theorem witness_RdPsrResult :
    Ready (r12 25) ∧ 12 ≤ (r12 25).rbuf.length ∧ Inv (r12 25) := ⟨by decide, by decide, by simp [r12, halted, State.reset], rfl, by simp [r12, halted, State.reset], by simp [r12, halted, State.reset]⟩

theorem witness_RdUnkResult :
    ((-1 : Int) < 0 ∨ 34 < (-1 : Int)) ∧ ((35 : Int) < 0 ∨ 34 < (35 : Int)) ∧ Ready (r12 35) ∧ 12 ≤ (r12 35).rbuf.length := by decide

theorem witness_WrPcResult :
    Ready (w4 15) ∧ (w4 15).wbuf = 0xEF :: 0xBE :: 0xAD :: 0xDE :: [] := by decide

theorem witness_WrFpsResult :
    Ready (w4 24) ∧ (w4 24).wbuf = 0xEF :: 0xBE :: 0xAD :: 0xDE :: [] := by decide

theorem witness_WrAbsentResult :
    Ready (w4 16) ∧ (w4 16).wbuf = 0xEF :: 0xBE :: 0xAD :: 0xDE :: [] := by decide

theorem witness_WrStoredSysResult :
    Ready (w4 34) ∧ (w4 34).wbuf = 0xEF :: 0xBE :: 0xAD :: 0xDE :: [] := by decide

theorem witness_WrGprResult :
    (14 : Fin 16) ≠ 15 ∧ Ready (w4 14) ∧ (w4 14).wbuf = 0xEF :: 0xBE :: 0xAD :: 0xDE :: [] := by decide

theorem witness_WrUnkResult :
    ((-1 : Int) < 0 ∨ 34 < (-1 : Int)) ∧ Ready (w4 (-1)) ∧ (w4 (-1)).wbuf = 0xEF :: 0xBE :: 0xAD :: 0xDE :: [] := by decide

theorem witness_WrFpxResult :
    Ready (wrRd 23) ∧ (wrRd 23).ext = false ∧ (wrRd 23).schedule = [] ∧ 4 ≤ [0xEF, 0xBE, 0xAD, (0xDE : Byte)].length ∧
    12 ≤ (aa 12).length ∧ (wrRd (16 + (7 : Fin 8).val)).requests =
      .write (16 + (7 : Fin 8).val) [0xEF, 0xBE, 0xAD, 0xDE] :: .read (16 + (7 : Fin 8).val) (aa 12) :: [] := by decide

theorem witness_WrPsrResult :
    Ready (wrRd 25) ∧ (wrRd 25).schedule = [] ∧ 4 ≤ [0xEF, 0xBE, 0xAD, (0xDE : Byte)].length ∧ 12 ≤ (aa 12).length ∧
    (wrRd 25).requests = .write 25 (0xEF :: 0xBE :: 0xAD :: 0xDE :: []) :: .read 25 (aa 12) :: [] := by decide

theorem witness_WrMpidResult :
    Ready (wrRd 33) ∧ (wrRd 33).schedule = [] ∧ 4 ≤ [0xEF, 0xBE, 0xAD, (0xDE : Byte)].length ∧ 12 ≤ (aa 12).length ∧
    (wrRd 33).requests = .write 33 (0xEF :: 0xBE :: 0xAD :: 0xDE :: []) :: .read 33 (aa 12) :: [] := by decide

theorem witness_SessionBeginResult :
    Ready (halted []) ∧ { halted [] with faulted := true }.faulted = true ∧ State.reset.faulted = false ∧
    State.reset.cpuHalted = false := by decide

/-- Each clause of the check order has a state; the boundary sizes are 11 and 12, 3 and 4. -/
theorem witness_CheckOrder :
    Ready (halted [.read 3 (aa 11)]) ∧ Instr.index (.rdGpr 3) = some 3 ∧ Instr.isWrite (.rdGpr 3) = false ∧
    (halted [.read 3 (aa 11)]).rbuf.length < 12 ∧ Instr.index .wrMpid = some 33 ∧ Instr.isWrite .wrMpid = true ∧
    (wr 33 [1, 2, 3]).wbuf.length < 4 ∧ (r12 3).bufferOk (.rdGpr 3) ∧ (w4 3).bufferOk (.wrGpr 3) := by
  refine ⟨by decide, rfl, rfl, by decide, rfl, rfl, by decide, ⟨fun _ => by decide, ?_⟩, ⟨?_, fun _ => by decide⟩⟩ <;>
    intro h <;> exact absurd h (by decide)

theorem witness_ModelFaultEffect :
    Ready (wr 33 [1, 2, 3]) ∧ Instr.index .wrMpid = some 33 ∧ Instr.isWrite .wrMpid = true ∧
    (wr 33 [1, 2, 3]).wbuf.length < 4 ∧ Ready (halted [.read 3 (aa 11)]) ∧ Instr.index (.rdGpr 3) = some 3 ∧
    Instr.isWrite (.rdGpr 3) = false ∧ (halted [.read 3 (aa 11)]).rbuf.length < 12 := by decide

theorem witness_RequestHeldUntilCpuHalted :
    heldState.faulted = false ∧ heldState.cpuHalted = false ∧ heldState.schedule = [.env .haltCpu] ∧
    heldState.requests = .read 3 (aa 12) :: [] ∧ State.reset.schedule = [] := by decide

theorem witness_OnlyBlockResetClearsFault :
    ∃ t, { heldState with faulted := true }.faulted = true ∧ step { heldState with faulted := true } = .next t ∧
    ∀ rest, { heldState with faulted := true }.schedule ≠ .env .resetBlock :: rest := ⟨_, rfl, rfl, by simp [heldState]⟩

theorem witness_BlockResetEffect :
    { heldState with schedule := [.env .resetBlock] }.schedule = .env .resetBlock :: [] := rfl

theorem witness_LengthTable :
    Ready (r12 33) ∧ (r12 33).schedule = [] ∧ 12 ≤ (aa 12).length ∧ (r12 33).requests = .read 33 (aa 12) :: [] ∧
    Ready (w4 33) ∧ (w4 33).schedule = [] ∧ 4 ≤ [0xEF, 0xBE, 0xAD, (0xDE : Byte)].length ∧
    (w4 33).requests = .write 33 [0xEF, 0xBE, 0xAD, 0xDE] :: [] := by decide

theorem witness_UnsupportedAccess :
    Instr.wrMpid.index.isSome = true ∧ Ready (w4 33) ∧ (w4 33).bufferOk .wrMpid := ⟨rfl, by decide, fun h => absurd h (by decide), fun _ => by decide⟩

theorem witness_ReadLaws :
    Ready rdRd ∧ rdRd.schedule = [] ∧ 12 ≤ (aa 12).length ∧
    rdRd.requests = .read 24 (aa 12) :: ([.read 35 (aa 12), .read 16 (aa 14)] ++ .read 24 (aa 13) :: []) ∧
    (∀ r ∈ [Request.read 35 (aa 12), .read 16 (aa 14)], ∃ j b, r = .read j b ∧ 12 ≤ b.length) ∧ 12 ≤ (aa 13).length := by
  refine ⟨by decide, rfl, by decide, rfl, ?_, by decide⟩
  simp only [List.forall_mem_cons]
  exact ⟨⟨_, _, rfl, by decide⟩, ⟨_, _, rfl, by decide⟩, by simp⟩

theorem witness_ReadFrame :
    ∃ t, Instr.rdMpid.isRead = true ∧ exec .rdMpid (r12 33) = .next t := ⟨_, rfl, rfl⟩

theorem witness_WriteFrame :
    (∃ t, Instr.wrPc.isWrite = true ∧ exec .wrPc (w4 15) = .next t ∧ Instr.wrPc ≠ .wrPsr ∧ Instr.wrPc.location ≠ some (.x 14)) ∧
    ∃ t, Instr.wrPsr.isWrite = true ∧ exec .wrPsr (w4 25) = .next t := ⟨⟨_, rfl, rfl, by decide, by decide⟩, _, rfl, rfl⟩

theorem witness_ExtWrittenOnlyBySession :
    (∃ t, (∀ e, Instr.wrPsr ≠ .sessionBegin e) ∧ exec .wrPsr (w4 25) = .next t) ∧
    ∃ t, step (halted [.session true]) = .next t ∧ t.ext ≠ (halted [.session true]).ext := ⟨⟨_, by simp, rfl⟩, _, rfl, by decide⟩

theorem witness_MpidConstant :
    ∃ t, core.run 2 (wrRd 33) = .next t ∧ Ready (wrRd 33) ∧ Ready t ∧ 12 ≤ (aa 12).length := ⟨_, rfl, by decide, by decide, by decide⟩

theorem witness_PcBitZeroKept :
    (∃ t, (Instr.wrGpr 14).wellFormed = true ∧ Instr.wrGpr 14 ≠ .wrPsr ∧ (w4 14).rf.x[15].getLsbD 0 = false ∧
      exec (.wrGpr 14) (w4 14) = .next t) ∧
    Ready (w4 15) ∧ 4 ≤ (w4 15).wbuf.length := ⟨⟨_, rfl, by decide, by decide, rfl⟩, by decide⟩

theorem witness_RoundTripLaws :
    (Ready (r12 15) ∧ (r12 15).schedule = [] ∧ 12 ≤ (aa 12).length ∧
      (r12 (15 : Fin 16).val).requests = .read (15 : Fin 16).val (aa 12) :: []) ∧
    (Ready (wrRd 34) ∧ (wrRd 34).schedule = [] ∧
      (wrRd 34).requests = .write 34 (0xEF :: 0xBE :: 0xAD :: 0xDE :: []) :: .read 34 (aa 12) :: [] ∧
      (0 ≤ (34 : Int) ∧ (34 : Int) ≤ 15 ∨ 25 ≤ (34 : Int) ∧ (34 : Int) ≤ 32 ∨ (34 : Int) = 34)) ∧
    (Ready (w4 33) ∧ (w4 33).schedule = [] ∧ 4 ≤ [0xEF, 0xBE, 0xAD, (0xDE : Byte)].length ∧
      (w4 33).requests = .write 33 [0xEF, 0xBE, 0xAD, 0xDE] :: []) := by decide

theorem witness_BytesBeyondThreeIgnored :
    (w4 5).cpuHalted = true ∧ { w4 5 with faulted := true }.faulted = true ∧
    heldState.faulted = false ∧ heldState.cpuHalted = false := by decide

/-- Two states that differ in the status word. -/
theorem witness_ReadRevealsOnlyItsLocation :
    Instr.rdPid.isRead = true ∧ Ready (r12 26) ∧ Ready (withPsr 1 (r12 26)) ∧ (r12 26).rbuf = (withPsr 1 (r12 26)).rbuf ∧
    12 ≤ (r12 26).rbuf.length ∧
    ∀ l, Instr.rdPid.location = some l → (r12 26).readLoc l = (withPsr 1 (r12 26)).readLoc l := by
  refine ⟨rfl, by decide, by decide, by decide, by decide, ?_⟩
  rintro l ⟨⟩
  rfl

theorem witness_StepRunsSelectedOperation :
    (r12 3).schedule = [] ∧ (r12 3).requests = .read 3 (aa 12) :: [] ∧
    (w4 3).requests = .write 3 [0xEF, 0xBE, 0xAD, 0xDE] :: [] ∧ (halted [.session true]).requests = .session true :: [] ∧
    State.reset.schedule = [] ∧ State.reset.requests = [] ∧ { r12 3 with schedule := [.serve] }.schedule = .serve :: [] := by decide

theorem witness_EnvironmentTurns :
    ∀ e : EnvEvent, { heldState with schedule := [.env e] }.schedule = .env e :: [] ∧ heldState.cpuHalted = false ∧
    (halted []).cpuHalted = true := fun _ => ⟨rfl, rfl, rfl⟩

theorem witness_StepKeepsInvariant :
    ∃ t, Inv (w4 25) ∧ step (w4 25) = .next t := ⟨_, ⟨by simp [w4, wr, halted, State.reset], rfl, by simp [w4, wr, halted, State.reset], by simp [w4, wr, halted, State.reset]⟩, rfl⟩

theorem witness_EveryRunEndsNormally :
    Ready (halted [.session true, .write 33 [1, 2, 3, 4], .read (-1) (aa 12)]) ∧
    (halted [.session true, .write 33 [1, 2, 3, 4], .read (-1) (aa 12)]).schedule = [] ∧
    (∀ r ∈ (halted [.session true, .write 33 [1, 2, 3, 4], .read (-1) (aa 12)]).requests, r.bufferOk) ∧
    State.reset.requests = [] ∧ State.reset.unanswered = false := by
  refine ⟨by decide, rfl, ?_, rfl, rfl⟩
  simp [halted, Request.bufferOk, aa]

/-- One request with too small a buffer, then a reset of the block. -/
def shortThenReset : State := { halted [.read 3 (aa 11)] with schedule := [.serve, .env .resetBlock] }

theorem witness_UnansweredOrHeldIsNoNormalEnd :
    (Ready shortThenReset ∧ shortThenReset.requests = [.read 3 (aa 11)] ∧ ¬ (Request.read 3 (aa 11)).bufferOk ∧
      shortThenReset.schedule = .serve :: .env .resetBlock :: []) ∧
    (∃ t, { State.reset with unanswered := true }.requests = [] ∧ { State.reset with unanswered := true }.unanswered = true ∧
      core.run 1 { State.reset with unanswered := true } = .next t) ∧
    ({ heldState with schedule := [] }.faulted = false ∧ { heldState with schedule := [] }.cpuHalted = false ∧
      { heldState with schedule := [] }.requests ≠ []) :=
  ⟨⟨by decide, rfl, by simp [Request.bufferOk, aa], rfl⟩, ⟨_, rfl, rfl, rfl⟩, by decide⟩

end Sys2Proof.Tests
end

/-! PROOFS. Every operation and every step said once as the updates it can consist of; the statements on the state, its invariant and
its reset follow from that (10_state.md). -/

section

namespace Sys2Proof

/-! ### Selection -/

/-- An undefined index that fits the key keeps, as 32 bits, a number above IDX_MAX and its own value (30_encoding.md R64). -/
theorem ofInt_undefined {idx : Int} (hfit : fitsKey idx = true) (hdef : ¬(0 ≤ idx ∧ idx ≤ 34)) :
    34 < (BitVec.ofInt 32 idx).toNat ∧ (BitVec.ofInt 32 idx).toInt = idx := by
  simp only [fitsKey, decide_eq_true_eq] at hfit
  rw [BitVec.toNat_ofInt, BitVec.toInt_ofInt, Int.bmod_def]
  omega

/-- The operation map and the resolver select the same operation (30_encoding.md R61, R65). -/
theorem selectInstr_eq_roleInstr (w ext : Bool) (idx : Int) :
    selectInstr w ext idx = roleInstr w ext idx (resolve idx) := by
  cases hfit : fitsKey idx
  · simp [selectInstr, hfit]
  rw [selectInstr, if_pos hfit]
  by_cases hdef : 0 ≤ idx ∧ idx ≤ 34
  · obtain ⟨n, rfl⟩ := Int.eq_ofNat_of_zero_le hdef.1
    exact decodeKey_defined w ext ⟨n, by omega⟩
  · obtain ⟨hhigh, hval⟩ := ofInt_undefined hfit hdef
    rw [decodeKey_high _ (by rwa [mkKey_lo]), unknownInstr_mkKey, hval,
      Laws.IndexRole.resolve_undefined (by simpa [definedIndex] using hdef)]
    rfl

/-- The two roles behind which the mode flag hides the legacy layout (30_encoding.md R61). -/
def Role.isLegacy : Role → Bool
  | .legacyBlock _ | .legacyStatus => true
  | .gpr _ | .status | .sys _ | .unknown => false

theorem resolve_isLegacy (idx : Int) : (resolve idx).isLegacy = true ↔ 16 ≤ idx ∧ idx ≤ 24 := by
  unfold resolve
  split_ifs <;> simp only [Role.isLegacy, Bool.false_eq_true, false_iff, true_iff] <;> omega

/-- The mode flag enters the selection by role at the legacy roles only. -/
theorem roleInstr_mode_irrelevant_iff (w : Bool) (idx : Int) (r : Role) :
    roleInstr w true idx r = roleInstr w false idx r ↔ r.isLegacy = false := by
  cases r <;> cases w <;> simp [roleInstr, Role.isLegacy]

/-- Settles O7: selection is by role, and the legacy roles are those of the indices 16 to 24. -/
theorem modeFlagMattersOnlyAtLegacyIndices : Obligations.ModeFlagMattersOnlyAtLegacyIndices := by
  intro w idx
  rw [selectInstr_eq_roleInstr, selectInstr_eq_roleInstr, roleInstr_mode_irrelevant_iff, ← resolve_isLegacy,
    Bool.not_eq_true]

end Sys2Proof

namespace Sys2Proof.Machine

variable {s t u : State} {i : Instr}

/-! ### What an operation can do -/

/-- The operation's own store before the response: `u` is `s` with at most one location written (41_write.md R101 to R117). -/
inductive Stores (s : State) : Instr → State → Prop
  | nothing {i : Instr} : Stores s i s
  | gpr (n : Fin 16) (v : Word) : Stores s (.wrGpr n) (s.writeX n v)
  | pc (v : Word) : Stores s .wrPc (s.writeX 15 (pcValue v))
  | psr (v : Word) : Stores s .wrPsr (s.applyPsr v)
  | sys {i : Instr} (f : SysField) (v : Word) : Stores s i (s.writeSys f v)

/-- The ways an operation answers a next state (60_exceptions.md R142 to R144): held by the running CPU, ended by a model fault,
answered after its store, or, for SESSION_BEGIN, ended without a response. -/
inductive Performs (s : State) : Instr → State → Prop
  | held {i : Instr} : s.cpuHalted = false → Performs s i s
  | raised {i : Instr} (f : ModelFault) : Performs s i (s.raise f)
  | answered {i : Instr} (u : State) (r : Response) : Stores s i u → r.wellFormed → Performs s i (u.respond r)
  | session (e : Bool) : Performs s (.sessionBegin e) (s.setExt e).retire

theorem emitWord_wellFormed (v : Word) {buf : Buffer} (hb : 12 ≤ buf.length) :
    (Response.read (emitWord v buf).2 (emitWord v buf).1).wellFormed :=
  ⟨.inr (.inl rfl), by simpa [emitWord] using hb⟩

theorem emitNothing_wellFormed {buf : Buffer} (hb : 12 ≤ buf.length) :
    (Response.read (emitNothing buf).2 (emitNothing buf).1).wellFormed :=
  ⟨.inl rfl, hb⟩

theorem emitPlaceholder_wellFormed {buf : Buffer} (hb : 12 ≤ buf.length) :
    (Response.read (emitPlaceholder buf).2 (emitPlaceholder buf).1).wellFormed :=
  ⟨.inr (.inr rfl), by simpa [emitPlaceholder] using hb⟩

/-- A write that names no location discards its value and acknowledges one of the three lengths (30_encoding.md R66). -/
theorem exec_discard_form {idx : Int} (hi : i.index = some idx) (hw : i.isWrite = true) (hl : i.location = none) :
    ∃ n, (n = 0 ∨ n = 4 ∨ n = 12) ∧ ∀ s, exec i s = writeAccess idx (discard n) s := by
  cases i <;> cases hw <;> cases hl <;> cases hi
  case wrFpx => exact ⟨12, .inr (.inr rfl), fun _ => rfl⟩
  case wrFps => exact ⟨4, .inr (.inl rfl), fun _ => rfl⟩
  all_goals exact ⟨0, .inl rfl, fun _ => rfl⟩

/-- What a write entry can do, when its inner operation is a store with one of the three lengths. -/
theorem performs_of_writeAccess {idx : Int} {op : Word → State → State × Nat}
    (hop : ∀ v, Stores s i (op v s).1 ∧ ((op v s).2 = 0 ∨ (op v s).2 = 4 ∨ (op v s).2 = 12))
    (h : writeAccess idx op s = .next t) : Performs s i t := by
  obtain ⟨-, ⟨hc, rfl⟩ | ⟨-, -, rfl⟩ | ⟨-, v, -, rfl⟩⟩ := writeAccess_next h
  · exact .held hc
  · exact .raised _
  · exact .answered _ _ (hop v).1 (hop v).2

/-- What a read entry can do, when its inner operation keeps a buffer well-formed. -/
theorem performs_of_readAccess {idx : Int} {op : Buffer → Buffer × Nat}
    (hop : ∀ buf : Buffer, 12 ≤ buf.length → (Response.read (op buf).2 (op buf).1).wellFormed)
    (h : readAccess idx op s = .next t) : Performs s i t := by
  obtain ⟨-, ⟨hc, rfl⟩ | ⟨-, -, rfl⟩ | ⟨-, hb, rfl⟩⟩ := readAccess_next h
  · exact .held hc
  · exact .raised _
  · exact .answered _ _ .nothing (hop _ hb)

/-- An operation is stopped in a faulted state (10_state.md R30). -/
theorem exec_next_unfaulted (h : exec i s = .next t) : s.faulted = false := by
  obtain ⟨k, hk⟩ := exec_gate_form i
  exact (gate_next (hk s ▸ h)).1

theorem read_performs {idx : Int} (hi : i.index = some idx) (hw : i.isWrite = false) (h : exec i s = .next t) :
    Performs s i t := by
  obtain ⟨op, hexec, hop⟩ := exec_read_form i idx hi hw
  refine performs_of_readAccess (fun buf hb => ?_) (hexec s ▸ h)
  obtain ⟨l, -, hl⟩ | ⟨-, hn | h0 | hp⟩ := hop
  · rw [hl]; exact emitWord_wellFormed _ hb
  · rw [hn]; exact emitNothing_wellFormed hb
  · rw [h0]; exact emitWord_wellFormed _ hb
  · rw [hp]; exact emitPlaceholder_wellFormed hb

theorem write_performs {idx : Int} (hi : i.index = some idx) (hw : i.isWrite = true) (h : exec i s = .next t) :
    Performs s i t := by
  obtain ⟨op, hexec, hop⟩ := exec_write_form i idx hi hw
  obtain ⟨hl, -⟩ | ⟨n, rfl, rfl⟩ | ⟨rfl, rfl⟩ | ⟨rfl, rfl⟩ | ⟨f, -, -, rfl⟩ := hop
  · obtain ⟨n, hn, hdiscard⟩ := exec_discard_form hi hw hl
    exact performs_of_writeAccess (fun v => ⟨.nothing, hn⟩) (hdiscard s ▸ h)
  · exact performs_of_writeAccess (fun v => ⟨.gpr n v, .inr (.inl rfl)⟩) (hexec s ▸ h)
  · exact performs_of_writeAccess (fun v => ⟨.pc v, .inr (.inl rfl)⟩) (hexec s ▸ h)
  · exact performs_of_writeAccess (fun v => ⟨.psr v, .inr (.inl rfl)⟩) (hexec s ▸ h)
  · exact performs_of_writeAccess (fun v => ⟨.sys f v, .inr (.inl rfl)⟩) (hexec s ▸ h)

theorem session_performs {e : Bool} (h : exec (.sessionBegin e) s = .next t) : Performs s (.sessionBegin e) t := by
  obtain ⟨-, ⟨hc, rfl⟩ | ⟨-, ht⟩⟩ := gate_next (show gate s (.next (s.setExt e).retire) = .next t from h)
  · exact .held hc
  · cases ht
    exact .session e

/-- Everything an operation that answers a next state can do. -/
theorem exec_next (h : exec i s = .next t) : Performs s i t := by
  cases hi : i.index with
  | none =>
    obtain ⟨e, rfl⟩ := eq_sessionBegin_of_index hi
    exact session_performs h
  | some idx =>
    cases hw : i.isWrite with
    | false => exact read_performs hi hw h
    | true => exact write_performs hi hw h

/-- Everything a step that answers a next state can do: idle, perform the first request's operation, or take an environment event,
each with the schedule moved on. -/
theorem step_cases (h : step s = .next t) :
    ∃ rest, (s.requests = [] ∧ t = s.setSchedule rest) ∨
      (∃ r l, s.requests = r :: l ∧ exec (r.instr s.ext) (s.setSchedule rest) = .next t) ∨
      ∃ e, s.schedule = .env e :: rest ∧ t = (s.setSchedule rest).applyEnv e := by
  obtain ⟨hnil, hs⟩ | ⟨rest, -, hs⟩ | ⟨e, rest, hsched, rfl⟩ := step_next h
  · have hself : s = s.setSchedule [] := by rw [← hnil]; rfl
    rw [hself] at hs
    exact ⟨[], (serve_next hs).imp_right .inl⟩
  · exact ⟨rest, (serve_next hs).imp_right .inl⟩
  · exact ⟨rest, .inr (.inr ⟨e, hsched, rfl⟩)⟩

/-! ### The invariant -/

/-- What is stored through the mask has the reserved bits 0 (10_state.md R23). -/
theorem psrApplied_reserved (v : Word) : psrApplied v &&& Config.psrReservedMask = 0 := by
  rw [psrApplied, BitVec.and_assoc, BitVec.and_comm (~~~Config.psrReservedMask), BitVec.and_not_self]
  exact BitVec.and_zero

/-- The invariant speaks of five fields: a state that agrees on four and has the reserved bits of `psr` 0 has it too. -/
theorem Inv.of_same_interface (hs : Inv s) (hpsr : t.psr &&& Config.psrReservedMask = 0) (hf : t.faulted = s.faulted)
    (hi : t.faultInfo = s.faultInfo) (hu : t.unanswered = s.unanswered) (hr : t.responses = s.responses) : Inv t where
  psrReserved := hpsr
  faultRecorded := by rw [hf, hi, hs.faultRecorded]
  faultUnanswered := by rw [hf, hu]; exact hs.faultUnanswered
  responsesWellFormed := by rw [hr]; exact hs.responsesWellFormed

theorem inv_setSchedule (hs : Inv s) (l : List Turn) : Inv (s.setSchedule l) :=
  hs.of_same_interface hs.psrReserved rfl rfl rfl rfl

theorem inv_cpuStores (hs : Inv s) (rf : RegFile) (p : Word) : Inv (s.cpuStores rf p) :=
  hs.of_same_interface (psrApplied_reserved p) rfl rfl rfl rfl

theorem inv_resetBlock (hs : Inv s) : Inv s.resetBlock where
  psrReserved := hs.psrReserved
  faultRecorded := rfl
  faultUnanswered := by simp
  responsesWellFormed := hs.responsesWellFormed

theorem inv_raise (hs : Inv s) (f : ModelFault) : Inv (s.raise f) where
  psrReserved := hs.psrReserved
  faultRecorded := rfl
  faultUnanswered _ := rfl
  responsesWellFormed := hs.responsesWellFormed

/-- Ending a request in an unfaulted state leaves no fault unanswered. -/
theorem inv_retire (hs : Inv s) (hf : s.faulted = false) : Inv s.retire where
  psrReserved := hs.psrReserved
  faultRecorded := hs.faultRecorded
  faultUnanswered := by simp [hf]
  responsesWellFormed := hs.responsesWellFormed

theorem inv_respond (hs : Inv s) (hf : s.faulted = false) {r : Response} (hr : r.wellFormed) : Inv (s.respond r) where
  psrReserved := hs.psrReserved
  faultRecorded := hs.faultRecorded
  faultUnanswered := by simp [hf]
  responsesWellFormed := by simpa [hr] using hs.responsesWellFormed

theorem inv_applyEnv (hs : Inv s) (e : EnvEvent) : Inv (s.applyEnv e) := by
  cases e with
  | cpuRuns rf p =>
    by_cases hc : s.cpuHalted = true
    · simpa [State.applyEnv, hc] using hs
    · simpa [State.applyEnv, hc] using inv_cpuStores hs rf p
  | cpuReset rf p => exact inv_cpuStores hs rf p
  | resetBlock => exact inv_resetBlock hs
  | haltCpu | resumeCpu | peerSession b => exact hs.of_same_interface hs.psrReserved rfl rfl rfl rfl

/-- The fault mark and MPID_SOURCE are outside what an operation stores to (41_write.md R107, 10_state.md R26). -/
theorem Stores.frame (h : Stores s i u) : u.faulted = s.faulted ∧ u.mpidSource = s.mpidSource := by
  cases h <;> exact ⟨rfl, rfl⟩

theorem Stores.inv (h : Stores s i u) (hs : Inv s) : Inv u := by
  cases h with
  | nothing => exact hs
  | psr v => exact hs.of_same_interface (psrApplied_reserved v) rfl rfl rfl rfl
  | gpr | pc | sys => exact hs.of_same_interface hs.psrReserved rfl rfl rfl rfl

theorem inv_exec (hs : Inv s) (h : exec i s = .next t) : Inv t := by
  have hf := exec_next_unfaulted h
  cases exec_next h with
  | held => exact hs
  | raised f => exact inv_raise hs f
  | answered u r hu hr => exact inv_respond (hu.inv hs) (hu.frame.1.trans hf) hr
  | session e => exact inv_retire (hs.of_same_interface hs.psrReserved rfl rfl rfl rfl) hf

/-- Settles O48: an idle step moves only the schedule, and every operation and every environment event keeps the invariant. -/
theorem stepKeepsInvariant : Obligations.StepKeepsInvariant := by
  intro s t hs h
  obtain ⟨rest, ⟨-, rfl⟩ | ⟨r, l, -, hexec⟩ | ⟨e, -, rfl⟩⟩ := step_cases h
  · exact inv_setSchedule hs rest
  · exact inv_exec (inv_setSchedule hs rest) hexec
  · exact inv_applyEnv (inv_setSchedule hs rest) e

/-! ### The fault mark -/

theorem applyEnv_fault_kept {e : EnvEvent} (he : e ≠ .resetBlock) (s : State) :
    (s.applyEnv e).faulted = s.faulted ∧ (s.applyEnv e).faultInfo = s.faultInfo := by
  cases e with
  | resetBlock => exact absurd rfl he
  | cpuRuns rf p => by_cases hc : s.cpuHalted = true <;> simp [State.applyEnv, hc]
  | haltCpu | resumeCpu | cpuReset | peerSession => exact ⟨rfl, rfl⟩

/-- Settles O31: no operation gets past the gate of a faulted state, and the only event that clears the mark is the block reset. -/
theorem onlyBlockResetClearsFault : Obligations.OnlyBlockResetClearsFault := by
  intro s t hf h hreset
  obtain ⟨rest, ⟨-, rfl⟩ | ⟨r, l, -, hexec⟩ | ⟨e, hsched, rfl⟩⟩ := step_cases h
  · exact ⟨hf, rfl⟩
  · have hunfaulted : s.faulted = false := exec_next_unfaulted (s := s.setSchedule rest) hexec
    exact absurd (hf.symm.trans hunfaulted) (by decide)
  · have he : e ≠ .resetBlock := by
      rintro rfl
      exact hreset rest hsched
    obtain ⟨hfault, hinfo⟩ := applyEnv_fault_kept he (s.setSchedule rest)
    exact ⟨hfault.trans hf, hinfo⟩

/-! ### MPID_SOURCE -/

theorem exec_mpidSource (h : exec i s = .next t) : t.mpidSource = s.mpidSource := by
  cases exec_next h with
  | held | raised | session => rfl
  | answered u r hu _ => exact hu.frame.2

theorem step_mpidSource (h : step s = .next t) : t.mpidSource = s.mpidSource := by
  obtain ⟨rest, ⟨-, rfl⟩ | ⟨r, l, -, hexec⟩ | ⟨e, -, rfl⟩⟩ := step_cases h
  · rfl
  · exact exec_mpidSource (s := s.setSchedule rest) hexec
  · exact (applyEnv_interface e _).1

theorem run_mpidSource (n : Nat) (s t : State) (h : core.run n s = .next t) : t.mpidSource = s.mpidSource := by
  induction n generalizing s with
  | zero => cases h; rfl
  | succ n ih =>
    obtain ⟨u, hstep, hrun⟩ := run_succ_next core n s t h
    exact (ih u hrun).trans (step_mpidSource hstep)

/-- The first four bytes a serialized word leaves in a buffer (20_memory.md R42). -/
theorem memWrite_zero_take_four (v : Word) {buf : Buffer} (hb : 4 ≤ buf.length) : (memWrite 0 v buf).take 4 = wordBytes v := by
  obtain ⟨b0, b1, b2, b3, tl, rfl⟩ := exists_four_bytes hb
  rfl

/-- A read of index 33 answers `sys[MPID]` in its first four bytes (40_read.md R94). -/
theorem exec_rdMpid_answer (h : Ready s) {buf : Buffer} (hb : 12 ≤ buf.length) (l : List Request) :
    ∃ t b, exec .rdMpid { s with requests := .read 33 buf :: l } = .next t ∧ t.responses = .read 4 b :: s.responses ∧
      b.take 4 = wordBytes (s.readSys .mpid) :=
  ⟨_, _, readAccess_ready h hb, rfl, memWrite_zero_take_four _ (Nat.le_trans (by decide) hb)⟩

/-- Settles O40: by induction on the run MPID_SOURCE is constant, and a read of index 33 answers what is computed from it. -/
theorem mpidConstant : Obligations.MpidConstant := by
  refine ⟨fun _ => rfl, fun n s t hrun => ?_⟩
  have hsource := run_mpidSource n s t hrun
  have hsys : t.readSys .mpid = s.readSys .mpid := congrArg Config.mpidCompose hsource
  refine ⟨hsource, hsys, fun buf buf' l l' hs ht hb hb' => ?_⟩
  obtain ⟨u, b, hu, hur, hbytes⟩ := exec_rdMpid_answer hs hb l
  obtain ⟨v, b', hv, hvr, hbytes'⟩ := exec_rdMpid_answer ht hb' l'
  exact ⟨u, v, b, b', hu, hur, hv, hvr, by rw [hbytes, hbytes', hsys]⟩

/-! ### The program counter -/

theorem pcValue_bit_zero (v : Word) : (pcValue v).getLsbD 0 = false := by
  simp [pcValue]

theorem exec_wrPc (s : State) : exec .wrPc s = writeAccess 15 (fun v t => (t.writeX 15 (pcValue v), 4)) s := rfl

theorem writeX_pcValue_bit_zero (s : State) (v : Word) : (s.writeX 15 (pcValue v)).rf.x[15].getLsbD 0 = false := by
  simpa using pcValue_bit_zero v

/-- A store other than a status write keeps bit 0 of the program counter 0: no other general register is index 15. -/
theorem Stores.pc_bit_zero (h : Stores s i u) (hwf : i.wellFormed = true) (hpsr : i ≠ .wrPsr)
    (hs : s.rf.x[15].getLsbD 0 = false) : u.rf.x[15].getLsbD 0 = false := by
  cases h with
  | nothing | sys => exact hs
  | pc v => exact writeX_pcValue_bit_zero s v
  | psr => exact absurd rfl hpsr
  | gpr n v =>
    have hn : n.val ≠ 15 := fun h15 => of_decide_eq_true hwf (Fin.ext h15)
    have hx : (s.writeX n v).rf.x[15] = s.rf.x[15] := Vector.getElem_set_ne n.isLt (by decide) hn
    rw [hx, hs]

/-- Settles O41: only WR_GPR, WR_PC and WR_PSR store to the general registers, and WR_PC clears the bit. -/
theorem pcBitZeroKept : Obligations.PcBitZeroKept := by
  refine ⟨fun i s t hwf hpsr hs h => ?_, fun s hready hb => ?_⟩
  · cases exec_next h with
    | held | raised | session => exact hs
    | answered u r hu _ => exact hu.pc_bit_zero hwf hpsr hs
  · obtain ⟨b0, b1, b2, b3, tl, hbuf⟩ := exists_four_bytes hb
    have hv : memRead s.wbuf = some (b3 ++ b2 ++ b1 ++ b0) := by rw [hbuf]; rfl
    exact ⟨_, (exec_wrPc s).trans (writeAccess_ready hready hv), writeX_pcValue_bit_zero s _⟩

/-! ### Reset -/

theorem reset_psr_reserved : State.reset.psr &&& Config.psrReservedMask = 0 := BitVec.zero_and

/-- Settles O33: `ext` starts at EXT_INIT and the word 0 has no reserved bit set. -/
theorem resetValues : Obligations.ResetValues := ⟨rfl, rfl, reset_psr_reserved⟩

/-- Settles O49: nothing is recorded or answered at reset, and the reserved bits are those of the word 0. -/
theorem resetHasInvariant : Obligations.ResetHasInvariant where
  psrReserved := reset_psr_reserved
  faultRecorded := rfl
  faultUnanswered := nofun
  responsesWellFormed := nofun

end Sys2Proof.Machine

end

/-! PROOFS. The serializer and deserializer, every operation said once by what it stores and the length it answers, and from that the
frames of the accesses, their isolation, and the run of a whole list of requests (20_memory.md). -/

section

namespace Sys2Proof

open Machine

/-- The LEN that a performed access answers (30_encoding.md R66); SESSION_BEGIN answers nothing (42_session.md R130). -/
def Instr.len : Instr → Nat
  | .rdFpx _ | .wrFpx _ => 12
  | .rdFpxX _ | .rdFpsX | .rdUnk _ | .wrFpxX _ | .wrFpsX | .wrMpid | .wrUnk _ | .sessionBegin _ => 0
  | _ => 4

/-- A write operation's own store of V, before the response: to the location it names, and for WR_PSR to what PSR_WRITE_EFFECT reaches
(41_write.md R101 to R117). -/
def Instr.store (i : Instr) (v : Word) (s : State) : State :=
  match i, i.location with
  | .wrPc, _ => s.writeX 15 (pcValue v)
  | .wrPsr, _ => s.applyPsr v
  | _, some (.x n) => s.writeX n v
  | _, some (.sys f) => s.writeSys f v
  | _, _ => s

end Sys2Proof

namespace Sys2Proof.Machine

variable {s t : State} {i : Instr} {idx : Int} {v : Word} {buf : Buffer} {r : Request} {l : List Request}

/-! ### The serializer and the deserializer -/

/-- A serialized word at offset 0 is its bytes before the old ones from offset 4 on (20_memory.md R42, R45). -/
theorem memWrite_zero_eq (v : Word) (hb : 4 ≤ buf.length) : memWrite 0 v buf = wordBytes v ++ buf.drop 4 := by
  obtain ⟨b0, b1, b2, b3, tl, rfl⟩ := exists_four_bytes hb
  rfl

/-- Settles O8: the four sets of MemWrite replace the four first bytes of a buffer that has them. -/
theorem serializeWordLittleEndian : Obligations.SerializeWordLittleEndian :=
  fun v _ hb => memWrite_zero_eq v hb

/-- A word is the concatenation of its bytes, the most significant first (20_memory.md R43). -/
theorem concat_extracted_bytes (v : Word) :
    v.extractLsb' 24 8 ++ v.extractLsb' 16 8 ++ v.extractLsb' 8 8 ++ v.extractLsb' 0 8 = v := by
  rw [BitVec.extractLsb'_append_extractLsb'_eq_extractLsb' (show 24 = 16 + 8 from rfl),
    BitVec.extractLsb'_append_extractLsb'_eq_extractLsb' (show 16 = 8 + 8 from rfl),
    BitVec.extractLsb'_append_extractLsb'_eq_extractLsb' (show 8 = 0 + 8 from rfl)]
  exact BitVec.extractLsb'_eq_self

/-- The concatenation of four bytes is the or of their shifts (20_memory.md R43). -/
theorem concat_bytes_eq_or_shifts (b0 b1 b2 b3 : Byte) :
    (b3 ++ b2 ++ b1 ++ b0 : Word) =
      b0.zeroExtend 32 ||| (b1.zeroExtend 32 <<< 8) ||| (b2.zeroExtend 32 <<< 16) ||| (b3.zeroExtend 32 <<< 24) := by
  calc (b3 ++ b2 ++ b1 ++ b0 : Word)
      = (b3 ++ b2 ++ b1 ++ b0).setWidth 32 := (BitVec.setWidth_eq _).symm
    _ = (b3.setWidth 32 <<< 24) ||| (b2.setWidth 32 <<< 16) ||| (b1.setWidth 32 <<< 8) ||| b0.setWidth 32 :=
      BitVec.setWidth_append_append_append_eq_shiftLeft_setWidth_or
    _ = _ := by
      rw [BitVec.or_comm, BitVec.or_comm _ (b1.setWidth 32 <<< 8), BitVec.or_comm (b3.setWidth 32 <<< 24), ← BitVec.or_assoc,
        ← BitVec.or_assoc]

/-- Settles O9: the word that MemRead makes of a serialized word's bytes is the concatenation of that word's own bytes. -/
theorem deserializeWordLittleEndian : Obligations.DeserializeWordLittleEndian := by
  refine ⟨fun b0 b1 b2 b3 _ => ⟨rfl, concat_bytes_eq_or_shifts b0 b1 b2 b3⟩, fun v buf hb => ?_⟩
  rw [memWrite_zero_eq v hb]
  exact congrArg some (concat_extracted_bytes v)

/-! ### The primitive of an operation -/

theorem isRead_iff : i.isRead = true ↔ ∃ idx, i.index = some idx ∧ i.isWrite = false := by
  simp [Instr.isRead, Option.isSome_iff_exists]

theorem exists_index_of_isWrite (hw : i.isWrite = true) : ∃ idx, i.index = some idx := by
  cases hi : i.index with
  | some idx => exact ⟨idx, rfl⟩
  | none =>
    obtain ⟨e, rfl⟩ := eq_sessionBegin_of_index hi
    cases hw

/-- Selection by role keeps the primitive and selects a register access. -/
theorem roleInstr_primitive (w ext : Bool) (idx : Int) (r : Role) :
    (roleInstr w ext idx r).isWrite = w ∧ (roleInstr w ext idx r).index.isSome = true := by
  cases r with
  | gpr n =>
    cases w
    · exact ⟨rfl, rfl⟩
    · by_cases hn : n = 15 <;> simp [roleInstr, hn, Instr.isWrite, Instr.index]
  | legacyBlock | legacyStatus => cases w <;> cases ext <;> exact ⟨rfl, rfl⟩
  | sys f => cases w <;> cases f <;> exact ⟨rfl, rfl⟩
  | status | unknown => cases w <;> exact ⟨rfl, rfl⟩

theorem selectInstr_isRead (ext : Bool) (idx : Int) : (selectInstr false ext idx).isRead = true := by
  obtain ⟨hw, hi⟩ := roleInstr_primitive false ext idx (resolve idx)
  rw [selectInstr_eq_roleInstr, Instr.isRead, hw, hi]
  rfl

theorem selectInstr_isWrite (ext : Bool) (idx : Int) : (selectInstr true ext idx).isWrite = true := by
  rw [selectInstr_eq_roleInstr]
  exact (roleInstr_primitive true ext idx (resolve idx)).1

/-! ### What a read does to its buffer -/

/-- A read's inner operation keeps the buffer's capacity and every byte from the LEN it answers on (20_memory.md R45). -/
def KeepsBeyondLen (op : Buffer → Buffer × Nat) : Prop :=
  ∀ buf, (op buf).1.length = buf.length ∧ ∀ k, (op buf).2 ≤ k → (op buf).1[k]? = buf[k]?

theorem emitWord_keepsBeyondLen (v : Word) : KeepsBeyondLen (emitWord v) := fun buf =>
  ⟨memWrite_length 0 v buf, fun k (hk : 4 ≤ k) => memWrite_other 0 v buf k (by omega)⟩

theorem emitNothing_keepsBeyondLen : KeepsBeyondLen emitNothing := fun _ => ⟨rfl, fun _ _ => rfl⟩

theorem emitPlaceholder_keepsBeyondLen : KeepsBeyondLen emitPlaceholder := by
  refine fun buf => ⟨by simp [emitPlaceholder], fun k (hk : 12 ≤ k) => ?_⟩
  simp only [emitPlaceholder]
  rw [memWrite_other 8 0 _ k (by omega), memWrite_other 4 0 _ k (by omega), memWrite_other 0 0 _ k (by omega)]

/-- Every read is the common read entry over an inner operation that touches nothing beyond its LEN, and that is the same in two
states which agree on the location the read names (20_memory.md R45, R49). -/
theorem exec_read_isolated (hr : i.isRead = true) :
    ∃ idx, ∃ op : State → Buffer → Buffer × Nat, (∀ s, exec i s = readAccess idx (op s) s) ∧ (∀ s, KeepsBeyondLen (op s)) ∧
      ∀ s t : State, (∀ l, i.location = some l → s.readLoc l = t.readLoc l) → op s = op t := by
  obtain ⟨idx, hi, hw⟩ := isRead_iff.1 hr
  obtain ⟨op, hexec, hop⟩ := exec_read_form i idx hi hw
  refine ⟨idx, op, hexec, ?_⟩
  obtain ⟨l, hloc, hl⟩ | ⟨-, hn | h0 | hp⟩ := hop
  · refine ⟨fun s => ?_, fun s t hst => ?_⟩
    · rw [hl]; exact emitWord_keepsBeyondLen _
    · rw [hl, hl, hst l hloc]
  · exact ⟨fun s => by rw [hn]; exact emitNothing_keepsBeyondLen, fun s t _ => by rw [hn, hn]⟩
  · exact ⟨fun s => by rw [h0]; exact emitWord_keepsBeyondLen 0, fun s t _ => by rw [h0, h0]⟩
  · exact ⟨fun s => by rw [hp]; exact emitPlaceholder_keepsBeyondLen, fun s t _ => by rw [hp, hp]⟩

/-- Settles O37: a read is held, ends with a model fault, or answers, and none of the three touches more than the interface. -/
theorem readFrame : Obligations.ReadFrame := by
  intro i s t hr h
  obtain ⟨idx, op, hexec, hkeep, -⟩ := exec_read_isolated hr
  obtain ⟨-, ⟨-, rfl⟩ | ⟨-, -, rfl⟩ | ⟨-, -, rfl⟩⟩ := readAccess_next (hexec s ▸ h)
  · exact ⟨rfl, rfl, rfl, rfl, rfl, rfl, .inl rfl⟩
  · exact ⟨rfl, rfl, rfl, rfl, rfl, rfl, .inl rfl⟩
  · exact ⟨rfl, rfl, rfl, rfl, rfl, rfl, .inr ⟨_, _, rfl, hkeep s s.rbuf⟩⟩

/-- Settles O44: both reads complete, over the same inner operation and the same buffer. -/
theorem readRevealsOnlyItsLocation : Obligations.ReadRevealsOnlyItsLocation := by
  intro i s t hr hs ht hbuf hb hloc
  obtain ⟨idx, op, hexec, -, hop⟩ := exec_read_isolated hr
  refine ⟨_, _, _, (hexec s).trans (readAccess_ready hs hb), (hexec t).trans (readAccess_ready ht (hbuf ▸ hb)), rfl, ?_⟩
  rw [hop s t hloc, hbuf]
  rfl

/-! ### What a write stores -/

/-- Every write is the common write entry over its own store and LEN (41_write.md R100). -/
theorem exec_write_eq (hw : i.isWrite = true) (hi : i.index = some idx) (s : State) :
    exec i s = writeAccess idx (fun v t => (i.store v t, i.len)) s := by
  cases i <;> cases hw <;> cases hi <;> rfl

/-- The state with these requests issued. -/
def State.withRequests (l : List Request) (s : State) : State := { s with requests := l }

/-- A performed write changes, but for the interface, the register file and the status word at most, and what it stores there does
not depend on the requests (20_memory.md R48). -/
theorem store_respond_withRequests (i : Instr) (v : Word) (s : State) (l : List Request) (a : Response) :
    (i.store v (s.withRequests l)).respond a =
      { s with rf := (i.store v s).rf, psr := (i.store v s).psr, requests := l.tail, responses := a :: s.responses,
               unanswered := false } := by
  unfold Instr.store
  split <;> rfl

theorem store_respond (i : Instr) (v : Word) (s : State) (a : Response) :
    (i.store v s).respond a =
      { s with rf := (i.store v s).rf, psr := (i.store v s).psr, requests := s.requests.tail, responses := a :: s.responses,
               unanswered := false } :=
  store_respond_withRequests i v s s.requests a

theorem readX_writeX_of_ne {m n : Fin 16} (h : n ≠ m) : (s.writeX n v).readX m = s.readX m :=
  Vector.getElem_set_ne n.isLt m.isLt (Fin.val_ne_of_ne h)

theorem readSys_writeSys_of_ne {f g : SysField} (h : f ≠ g) : (s.writeSys f v).readSys g = s.readSys g := by
  cases f <;> cases g <;> simp [State.readSys, SysFields.write] at h ⊢

theorem readLoc_writeX_of_ne {n : Fin 16} {l : Loc} (h : .x n ≠ l) : (s.writeX n v).readLoc l = s.readLoc l := by
  cases l with
  | x m => exact readX_writeX_of_ne fun hnm => h (congrArg Loc.x hnm)
  | psr | sys => rfl

theorem readLoc_writeSys_of_ne {f : SysField} {l : Loc} (h : .sys f ≠ l) : (s.writeSys f v).readLoc l = s.readLoc l := by
  cases l with
  | sys g => exact readSys_writeSys_of_ne fun hfg => h (congrArg Loc.sys hfg)
  | x | psr => rfl

/-- A store other than a status write changes at most the location its operation names (20_memory.md R48). -/
theorem readLoc_store {l : Loc} (hpsr : i ≠ .wrPsr) (hl : i.location ≠ some l) (v : Word) (s : State) :
    (i.store v s).readLoc l = s.readLoc l := by
  unfold Instr.store
  split
  next => exact readLoc_writeX_of_ne fun h => hl (congrArg some h)
  next => exact absurd rfl hpsr
  next hloc => exact readLoc_writeX_of_ne fun h => hl (hloc.trans (congrArg some h))
  next hloc => exact readLoc_writeSys_of_ne fun h => hl (hloc.trans (congrArg some h))
  next => rfl

/-- Settles O38: a write is held, ends with a model fault, or answers after a store to the location it names. -/
theorem writeFrame : Obligations.WriteFrame := by
  intro i s t hw h
  obtain ⟨idx, hi⟩ := exists_index_of_isWrite hw
  obtain ⟨-, ⟨-, rfl⟩ | ⟨-, -, rfl⟩ | ⟨-, v, hv, rfl⟩⟩ := writeAccess_next (exec_write_eq hw hi s ▸ h)
  · exact ⟨rfl, rfl, rfl, rfl, fun _ _ _ => rfl, fun _ => .inl rfl, .inl rfl⟩
  · exact ⟨rfl, rfl, rfl, rfl, fun _ _ _ => rfl, fun _ => .inl rfl, .inl rfl⟩
  · have hanswer := store_respond i v s (.write i.len)
    refine ⟨(congrArg State.mpidSource hanswer :), (congrArg State.ext hanswer :), (congrArg State.cpuHalted hanswer :),
      (congrArg State.schedule hanswer :), fun hpsr l hl => readLoc_store hpsr hl v s, ?_,
      .inr ⟨i.len, (congrArg State.responses hanswer :)⟩⟩
    rintro rfl
    exact .inr ⟨v, hv, rfl⟩

/-! ### What a performed access answers -/

theorem exec_read_ready (hr : i.isRead = true) (h : Ready s) (hb : 12 ≤ s.rbuf.length) :
    ∃ b, exec i s = .next (s.respond (.read i.len b)) := by
  cases i <;> cases hr <;> exact ⟨_, readAccess_ready h hb⟩

theorem exec_write_ready (hw : i.isWrite = true) (h : Ready s) (hv : memRead s.wbuf = some v) :
    exec i s = .next ((i.store v s).respond (.write i.len)) := by
  obtain ⟨idx, hi⟩ := exists_index_of_isWrite hw
  exact (exec_write_eq hw hi s).trans (writeAccess_ready h hv)

theorem exec_sessionBegin_ready (h : Ready s) (e : Bool) : exec (.sessionBegin e) s = .next (s.setExt e).retire :=
  gate_ready h _

/-! ### The bytes of a write request that are not read -/

/-- A read performed for a write request finds no read buffer (log entry 17). -/
theorem exec_read_of_write_request {j : Int} (hi : i.index = some j) (hw : i.isWrite = false) (h : Ready s)
    (hreq : s.requests = .write idx buf :: l) : exec i s = .next (s.raise (.readBufferSmall 0 j)) := by
  obtain ⟨op, hexec, -⟩ := exec_read_form i j hi hw
  have hbuf : s.rbuf = [] := by simp [State.rbuf, hreq]
  rw [hexec, readAccess_short h (by simp [hbuf]), hbuf]
  rfl

theorem exec_faulted (h : s.faulted = true) (i : Instr) : exec i s = .fault .quiescent := by
  obtain ⟨k, hk⟩ := exec_gate_form i
  rw [hk, gate_faulted h]

theorem exec_held (h : s.faulted = false) (hc : s.cpuHalted = false) (i : Instr) : exec i s = .next s := by
  obtain ⟨k, hk⟩ := exec_gate_form i
  rw [hk, gate_held h hc]

/-- What follows the four bytes of a write request does not enter the answer of a performed operation (20_memory.md R46). -/
theorem exec_write_request_ready (h : Ready s) (i : Instr) (idx : Int) (b0 b1 b2 b3 : Byte) (tl tl' : Buffer) (l : List Request) :
    exec i (s.withRequests (.write idx (b0 :: b1 :: b2 :: b3 :: tl) :: l)) =
      exec i (s.withRequests (.write idx (b0 :: b1 :: b2 :: b3 :: tl') :: l)) := by
  have hready : ∀ q, Ready (s.withRequests q) := fun _ => h
  cases hi : i.index with
  | none =>
    obtain ⟨e, rfl⟩ := eq_sessionBegin_of_index hi
    rw [exec_sessionBegin_ready (hready _), exec_sessionBegin_ready (hready _)]
    rfl
  | some j =>
    cases hw : i.isWrite with
    | true =>
      have hv : ∀ tl, memRead (s.withRequests (.write idx (b0 :: b1 :: b2 :: b3 :: tl) :: l)).wbuf =
        some (b3 ++ b2 ++ b1 ++ b0) := fun _ => rfl
      rw [exec_write_ready hw (hready _) (hv tl), exec_write_ready hw (hready _) (hv tl'), store_respond_withRequests,
        store_respond_withRequests]
      rfl
    | false =>
      rw [exec_read_of_write_request hi hw (hready _) rfl, exec_read_of_write_request hi hw (hready _) rfl]
      rfl

/-- Settles O43: a faulted state stops every operation, a performed one reads four bytes, and a held request stays as it is. -/
theorem bytesBeyondThreeIgnored : Obligations.BytesBeyondThreeIgnored := by
  intro i s idx b0 b1 b2 b3 tl tl' rest
  constructor
  · intro h
    by_cases hf : s.faulted = true
    · have hstop : ∀ q, exec i (s.withRequests q) = .fault .quiescent := fun q => exec_faulted (s := s.withRequests q) hf i
      exact (hstop (_ :: rest)).trans (hstop (_ :: rest)).symm
    · have hready : Ready s := ⟨eq_false_of_ne_true hf, h.resolve_left hf⟩
      exact exec_write_request_ready hready i idx b0 b1 b2 b3 tl tl' rest
  · intro hf hc
    exact exec_held (s := s.withRequests (.write idx (b0 :: b1 :: b2 :: b3 :: tl) :: rest)) hf hc i

/-! ### The block's turn and whole runs -/

/-- Settles O45: the block's turn is `serve`, which looks at the first request only. -/
theorem stepRunsSelectedOperation : Obligations.StepRunsSelectedOperation := by
  refine ⟨fun s idx b rest hs => ⟨step_of_request hs, step_of_request hs⟩, fun s e rest hs => step_of_request hs,
    fun s hs hr => ?_, fun s rest hs => ?_⟩
  · simp [step, hs, serve, hr]
  · simp [step, hs, State.setSchedule]

/-- The table's length for an access of primitive `w` (30_encoding.md R66). -/
def accessLen (w ext : Bool) (idx : Int) : Nat := if w then writeLen ext idx else readLen ext idx

theorem accessLen_undefined (w ext : Bool) {idx : Int} (h : ¬(0 ≤ idx ∧ idx ≤ 34)) : accessLen w ext idx = 0 := by
  have hread : readLen ext idx = 0 := by
    unfold readLen
    rw [if_neg (by omega), if_neg (by omega), if_neg (by omega), if_neg (by omega)]
  simp [accessLen, writeLen, hread]

theorem roleInstr_len_defined : ∀ (w ext : Bool) (n : Fin 35),
    (roleInstr w ext n.val (resolve n.val)).len = accessLen w ext n.val := by decide

/-- The operation that a request selects answers the table's length. -/
theorem selectInstr_len (w ext : Bool) (idx : Int) : (selectInstr w ext idx).len = accessLen w ext idx := by
  rw [selectInstr_eq_roleInstr]
  by_cases hdef : 0 ≤ idx ∧ idx ≤ 34
  · obtain ⟨n, rfl⟩ := Int.eq_ofNat_of_zero_le hdef.1
    exact roleInstr_len_defined w ext ⟨n, by omega⟩
  · rw [Laws.IndexRole.resolve_undefined (by simpa [definedIndex] using hdef), accessLen_undefined w ext hdef]
    cases w <;> rfl

/-- The request `r` has been served from `s` on: nothing is left of it but the responses it is to have and the mode it sets. -/
structure Served (r : Request) (s t : State) : Prop where
  ready : Ready t
  schedule : t.schedule = s.schedule
  requests : t.requests = s.requests.tail
  answered : t.unanswered = false
  responses : ∃ new, t.responses = new ++ s.responses ∧
    ∀ l, expectedLens s.ext (r :: l) = new.reverse.map Response.len ++ expectedLens t.ext l

theorem read_served (h : Ready s) (hreq : s.requests = .read idx buf :: l) (hb : 12 ≤ buf.length) :
    ∃ t, exec (selectInstr false s.ext idx) s = .next t ∧ Served (.read idx buf) s t := by
  obtain ⟨b, hexec⟩ := exec_read_ready (selectInstr_isRead s.ext idx) h ((rbuf_read hreq).symm ▸ hb)
  rw [selectInstr_len] at hexec
  exact ⟨_, hexec, h, rfl, rfl, rfl, [_], rfl, fun _ => rfl⟩

theorem write_served (h : Ready s) (hreq : s.requests = .write idx buf :: l) (hb : 4 ≤ buf.length) :
    ∃ t, exec (selectInstr true s.ext idx) s = .next t ∧ Served (.write idx buf) s t := by
  obtain ⟨b0, b1, b2, b3, tl, rfl⟩ := exists_four_bytes hb
  have hv : memRead s.wbuf = some (b3 ++ b2 ++ b1 ++ b0) := by rw [wbuf_write hreq]; rfl
  have hexec := exec_write_ready (selectInstr_isWrite s.ext idx) h hv
  rw [store_respond, selectInstr_len] at hexec
  exact ⟨_, hexec, h, rfl, rfl, rfl, [_], rfl, fun _ => rfl⟩

theorem session_served (h : Ready s) (e : Bool) :
    ∃ t, exec (.sessionBegin e) s = .next t ∧ Served (.session e) s t :=
  ⟨_, exec_sessionBegin_ready h e, h, rfl, rfl, rfl, [], rfl, fun _ => rfl⟩

/-- No access of a ready state fails, whatever its index and the mode (60_exceptions.md R140). -/
theorem step_serves_request (h : Ready s) (hs : s.schedule = []) (hreq : s.requests = r :: l) (hb : r.bufferOk) :
    ∃ t, step s = .next t ∧ Served r s t := by
  rw [step_of_request hs hreq]
  cases r with
  | read idx buf => exact read_served h hreq hb
  | write idx buf => exact write_served h hreq hb
  | session e => exact session_served h e

/-- Settles O50: by induction on the requests, each of which one step serves. -/
theorem everyRunEndsNormally : Obligations.EveryRunEndsNormally := by
  intro s
  induction hreq : s.requests generalizing s with
  | nil => exact fun h _ _ hu => ⟨s, [], rfl, ⟨hreq, hu rfl, h.1⟩, h.2, rfl, rfl⟩
  | cons r l ih =>
    intro h hs hb _
    obtain ⟨t, hstep, ht⟩ := step_serves_request h hs hreq (hb r List.mem_cons_self)
    obtain ⟨new, hresp, hlens⟩ := ht.responses
    have htreq : t.requests = l := ht.requests.trans (congrArg List.tail hreq)
    obtain ⟨u, later, hrun, hend, hhalt, hlater, hlaterlens⟩ :=
      ih t htreq ht.ready (ht.schedule.trans hs) (fun q hq => hb q (List.mem_cons_of_mem r hq)) fun _ => ht.answered
    refine ⟨u, later ++ new, (core_run_succ l.length hstep).trans hrun, hend, hhalt, ?_, ?_⟩
    · rw [hlater, hresp, List.append_assoc]
    · rw [List.reverse_append, List.map_append, hlaterlens, hlens]

end Sys2Proof.Machine

end

/-! PROOFS. The resolver and the selection of an operation by its key, the two directions of the encoding, the table of lengths, and the
step that a placed key makes (30_encoding.md). -/

section

namespace Sys2Proof

/-! ### The resolver and the operations it selects -/

/-- Settles O4: the defined indices by evaluation, the others by `resolve_undefined`. -/
theorem resolverClassifiesEveryIndex : Obligations.ResolverClassifiesEveryIndex := by
  refine ⟨by decide, by decide, rfl, rfl, rfl, rfl, rfl, rfl, rfl, rfl, rfl, rfl, rfl, fun idx hidx => ?_⟩
  have hdef : ¬(0 ≤ idx ∧ idx ≤ 34) := by omega
  exact Laws.IndexRole.resolve_undefined (by simpa [definedIndex] using hdef)

/-- Settles O5: below and above the key's range by definition, within it by the rows of match and mask. -/
theorem keyDecodeAgreesWithResolver : Obligations.KeyDecodeAgreesWithResolver := selectInstr_eq_roleInstr

theorem roleInstr_defined : ∀ (w ext : Bool) (n : Fin 35),
    (roleInstr w ext n.val (resolve n.val)).wellFormed = true ∧
    (roleInstr w ext n.val (resolve n.val)).index = some (n.val : Int) := by decide

theorem roleInstr_unknown (w ext : Bool) {idx : Int} (h : definedIndex idx = false) :
    (roleInstr w ext idx .unknown).wellFormed = true ∧ (roleInstr w ext idx .unknown).index = some idx := by
  cases w <;> simp [roleInstr, Instr.wellFormed, Instr.index, h]

theorem selectInstr_wellFormed_index (w ext : Bool) (idx : Int) :
    (selectInstr w ext idx).wellFormed = true ∧ (selectInstr w ext idx).index = some idx := by
  rw [selectInstr_eq_roleInstr]
  cases hdef : definedIndex idx with
  | true =>
    obtain ⟨hlow, hhigh⟩ : 0 ≤ idx ∧ idx ≤ 34 := by simpa [definedIndex] using hdef
    obtain ⟨n, rfl⟩ := Int.eq_ofNat_of_zero_le hlow
    exact roleInstr_defined w ext ⟨n, by omega⟩
  | false =>
    rw [Laws.IndexRole.resolve_undefined hdef]
    exact roleInstr_unknown w ext hdef

theorem selectInstr_primitive (w ext : Bool) (idx : Int) : (selectInstr w ext idx).isWrite = w := by
  rw [selectInstr_eq_roleInstr]
  exact (Machine.roleInstr_primitive w ext idx (resolve idx)).1

/-- Settles O3: by the role of the index; an undefined one is the selected operation's own operand. -/
theorem selectedOperationIsWellFormed : Obligations.SelectedOperationIsWellFormed := fun w ext idx =>
  let ⟨hwf, hindex⟩ := selectInstr_wellFormed_index w ext idx
  ⟨hwf, hindex, selectInstr_primitive w ext idx⟩

/-! ### The key of a selected operation -/

/-- Settles O6: each of the 18 keys is evaluated. -/
theorem specKeysDecode : Obligations.SpecKeysDecode := by
  unfold Obligations.SpecKeysDecode
  decide

/-- A row that fixes bit X is selected only in the mode it fixes (30_encoding.md R65). -/
theorem roleInstr_modeBit (w ext : Bool) (idx : Int) (r : Role) : (roleInstr w ext idx r).modeBit.getD ext = ext := by
  cases r with
  | gpr n =>
    cases w
    · rfl
    · by_cases hn : n = 15 <;> simp [roleInstr, hn, Instr.modeBit]
  | legacyBlock | legacyStatus => cases w <;> cases ext <;> rfl
  | sys f => cases w <;> cases f <;> rfl
  | status | unknown => cases w <;> rfl

theorem encodeKey_selectInstr (w ext : Bool) (idx : Int) :
    encodeKey ext (selectInstr w ext idx) = some (mkKey w ext (BitVec.ofInt 32 idx)) := by
  obtain ⟨-, hindex⟩ := selectInstr_wellFormed_index w ext idx
  have hmode : (selectInstr w ext idx).modeBit.getD ext = ext := by
    rw [selectInstr_eq_roleInstr]
    exact roleInstr_modeBit w ext idx (resolve idx)
  rw [encodeKey, hindex, selectInstr_primitive, hmode]
  rfl

theorem keyIndex_fitsKey (k : Key) : fitsKey (keyIndex k) = true := by
  have hlow : -2147483648 ≤ keyIndex k := BitVec.le_toInt _
  have hhigh : keyIndex k < 2147483648 := BitVec.toInt_lt
  exact decide_eq_true ⟨hlow, Int.le_of_lt_add_one hhigh⟩

theorem mkKey_keyIndex (k : Key) : mkKey (k.getLsbD 33) (k.getLsbD 32) (BitVec.ofInt 32 (keyIndex k)) = k := by
  rw [keyIndex, BitVec.ofInt_toInt]
  exact (key_eq_mkKey k).symm

/-- A key decodes to the operation that its primitive, its mode flag and its index select (30_encoding.md R64). -/
theorem decodeKey_eq_selectInstr (k : Key) : decodeKey k = selectInstr (k.getLsbD 33) (k.getLsbD 32) (keyIndex k) := by
  rw [selectInstr, if_pos (keyIndex_fitsKey k), mkKey_keyIndex]

/-- Settles O2: the operation a key decodes to is the one its three parts select, and that operation's key has those parts. -/
theorem encodeDecodeKeyRoundTrip : Obligations.EncodeDecodeKeyRoundTrip := by
  intro k
  rw [decodeKey_eq_selectInstr, encodeKey_selectInstr, mkKey_keyIndex]

/-! ### The operation of a key's bytes -/

theorem concat_key_bytes (k : Key) :
    k.extractLsb' 32 2 ++ k.extractLsb' 24 8 ++ k.extractLsb' 16 8 ++ k.extractLsb' 8 8 ++ k.extractLsb' 0 8 = k := by
  rw [BitVec.extractLsb'_append_extractLsb'_eq_extractLsb' (show 32 = 24 + 8 from rfl),
    BitVec.extractLsb'_append_extractLsb'_eq_extractLsb' (show 24 = 16 + 8 from rfl),
    BitVec.extractLsb'_append_extractLsb'_eq_extractLsb' (show 16 = 8 + 8 from rfl),
    BitVec.extractLsb'_append_extractLsb'_eq_extractLsb' (show 8 = 0 + 8 from rfl)]
  exact BitVec.extractLsb'_eq_self

/-- The fifth byte holds the two high bits of a key under six zeros (log entry 15). -/
theorem topByte_parts : ∀ b : BitVec 2, (b.zeroExtend 8).extractLsb' 2 6 = 0#6 ∧ (b.zeroExtend 8).extractLsb' 0 2 = b := by
  decide

theorem decodeBytes_keyBytes (k : Key) : decodeBytes (keyBytes k) = .ok (decodeKey k) := by
  obtain ⟨hzero, hlow⟩ := topByte_parts (k.extractLsb' 32 2)
  rw [keyBytes_eq, decodeBytes, if_pos hzero, hlow]
  exact congrArg (fun z => Except.ok (decodeKey z)) (concat_key_bytes k)

open Laws.IndexRole in
/-- Every operation is the one its own index, primitive and mode select: the laws of the 34 operations together. -/
theorem indexRole : ∀ i : Instr, Statement i
  | .rdGpr n => rdGpr n
  | .rdFpx k => rdFpx k
  | .rdFpxX k => rdFpxX k
  | .rdFps => rdFps
  | .rdFpsX => rdFpsX
  | .rdPsr => rdPsr
  | .rdPid => rdPid
  | .rdCpctl => rdCpctl
  | .rdMask => rdMask
  | .rdBasemask => rdBasemask
  | .rdData => rdData
  | .rdInsn => rdInsn
  | .rdFsr => rdFsr
  | .rdMpid => rdMpid
  | .rdElr => rdElr
  | .rdUnk idx => rdUnk idx
  | .wrGpr n => wrGpr n
  | .wrPc => wrPc
  | .wrFpx k => wrFpx k
  | .wrFpxX k => wrFpxX k
  | .wrFps => wrFps
  | .wrFpsX => wrFpsX
  | .wrPsr => wrPsr
  | .wrPid => wrPid
  | .wrCpctl => wrCpctl
  | .wrMask => wrMask
  | .wrBasemask => wrBasemask
  | .wrData => wrData
  | .wrInsn => wrInsn
  | .wrFsr => wrFsr
  | .wrMpid => wrMpid
  | .wrElr => wrElr
  | .wrUnk idx => wrUnk idx
  | .sessionBegin e => sessionBegin e

/-- A defined index fits the key, and an undefined one fits it exactly when its operation has a spelling. -/
theorem fitsKey_of_encodable {i : Instr} {idx : Int} (hi : i.index = some idx) (he : i.encodable = true) :
    fitsKey idx = true := by
  cases i <;> cases hi
  case rdUnk | wrUnk => exact he
  case rdGpr n | wrGpr n => revert n; decide
  case rdFpx k | rdFpxX k | wrFpx k | wrFpxX k => revert k; decide
  all_goals rfl

/-- Selection by a well-formed operation's own index, primitive and mode gives the operation back. -/
theorem selectInstr_own {i : Instr} {idx : Int} (hwf : i.wellFormed = true) (hi : i.index = some idx) (x : Bool) :
    selectInstr i.isWrite (i.modeBit.getD x) idx = i := by
  have hmode : i.modeBit.getD (i.modeBit.getD x) = i.modeBit.getD x := by cases i.modeBit <;> rfl
  rw [selectInstr_eq_roleInstr, indexRole i _ idx hwf hmode hi]

theorem encode_of_index {i : Instr} {idx : Int} (hi : i.index = some idx) (x : Bool) :
    encode x i = keyBytes (mkKey i.isWrite (i.modeBit.getD x) (BitVec.ofInt 32 idx)) := by
  rw [encode, encodeKey, hi]
  rfl

/-- Settles O1: a session's byte is evaluated; an access's five bytes are those of its key, which selects it by its own index. -/
theorem decodeEncodeRoundTrip : Obligations.DecodeEncodeRoundTrip := by
  intro x i hwf he
  cases hi : i.index with
  | none =>
    obtain ⟨e, rfl⟩ := Machine.eq_sessionBegin_of_index hi
    cases e <;> rfl
  | some idx =>
    have hselect : decodeKey (mkKey i.isWrite (i.modeBit.getD x) (BitVec.ofInt 32 idx)) = i := by
      have h := selectInstr_own hwf hi x
      rwa [selectInstr, if_pos (fitsKey_of_encodable hi he)] at h
    rw [encode_of_index hi, decodeBytes_keyBytes, hselect]

end Sys2Proof

namespace Sys2Proof.Machine

/-! ### The table of lengths -/

/-- The write column of the table, in the order of its rows (30_encoding.md R66). -/
theorem writeLen_eq (ext : Bool) (idx : Int) : writeLen ext idx =
    if 0 ≤ idx ∧ idx ≤ 15 then 4 else if 16 ≤ idx ∧ idx ≤ 23 then (if ext then 0 else 12)
      else if idx = 24 then (if ext then 0 else 4) else if idx = 33 then 0
      else if 25 ≤ idx ∧ idx ≤ 34 then 4 else 0 := by
  unfold writeLen readLen
  by_cases h33 : idx = 33
  · subst h33; rfl
  · simp only [if_neg h33]

/-- Settles O34: the selected operation is performed and answers its own length, which is the table's. -/
theorem lengthTable : Obligations.LengthTable := by
  intro s idx rest hready hsched
  constructor
  · intro buf hb hreq
    obtain ⟨b, hexec⟩ := exec_read_ready (selectInstr_isRead s.ext idx) hready ((rbuf_read hreq).symm ▸ hb)
    rw [selectInstr_len] at hexec
    exact ⟨_, b, (step_of_request hsched hreq).trans hexec, rfl⟩
  · intro b hb hreq
    obtain ⟨b0, b1, b2, b3, tl, rfl⟩ := exists_four_bytes hb
    have hv : memRead s.wbuf = some (b3 ++ b2 ++ b1 ++ b0) := by rw [wbuf_write hreq]; rfl
    have hexec := exec_write_ready (selectInstr_isWrite s.ext idx) hready hv
    rw [store_respond, selectInstr_len] at hexec
    rw [← writeLen_eq]
    exact ⟨_, (step_of_request hsched hreq).trans hexec, rfl⟩

/-! ### Placing a key -/

theorem decodeTableWord_key (k : Key) : decodeTableWord 40 k.toNat = some (decodeKey k) := by
  have hk : k.toNat < 1099511627776 := Nat.lt_trans k.isLt (by decide)
  have hbytes : decodeBytes (natBytes 5 k.toNat) = .ok (decodeKey k) := decodeBytes_keyBytes k
  rw [decodeTableWord, if_neg (by decide), if_pos hk, hbytes]
  rfl

/-- A key's request asks for the key's index, by its bit W as a read or a write, with the least buffer (log entry 15). -/
theorem tableRequest_key (k : Key) : tableRequest 40 k.toNat =
    if k.getLsbD 33 then .write (keyIndex k) (List.replicate 4 0) else .read (keyIndex k) (List.replicate 12 0) := by
  have hindex : (BitVec.ofNat 32 k.toNat).toInt = keyIndex k :=
    congrArg BitVec.toInt (BitVec.eq_of_toNat_eq (by simp [BitVec.extractLsb'_toNat]))
  rw [tableRequest, if_neg (by decide), hindex]
  rfl

theorem tableExt_key (k : Key) (ext : Bool) : tableExt 40 k.toNat ext = k.getLsbD 32 := by
  rw [tableExt, if_neg (by decide)]
  rfl

/-- The request placed for a key selects the operation the key decodes to. -/
theorem tableRequest_instr (k : Key) (ext : Bool) :
    (tableRequest 40 k.toNat).instr (tableExt 40 k.toNat ext) = decodeKey k := by
  rw [tableRequest_key, tableExt_key, decodeKey_eq_selectInstr]
  cases k.getLsbD 33 <;> rfl

theorem step_place (s : State) (r : Request) (ext : Bool) :
    step (s.place r ext) = exec (r.instr ext) { s.place r ext with schedule := s.schedule } := rfl

/-- The buffer placed with a key is large enough for its operation. -/
theorem place_bufferOk (s : State) (k : Key) (ext : Bool) :
    (s.place (tableRequest 40 k.toNat) ext).bufferOk (decodeKey k) := by
  have hprim : (decodeKey k).isWrite = k.getLsbD 33 := by
    rw [decodeKey_eq_selectInstr, selectInstr_primitive]
  rw [tableRequest_key]
  cases hw : k.getLsbD 33 with
  | true => exact ⟨fun hr => by simp [Instr.isRead, hprim.trans hw] at hr, fun _ => Nat.le_refl 4⟩
  | false => exact ⟨fun _ => Nat.le_refl 12, fun h => by simp [hprim.trans hw] at h⟩

/-- Settles O46: the block's next turn serves the request placed first, which selects what the key decodes to. -/
theorem keySelectsAndRuns : Obligations.KeySelectsAndRuns := by
  intro k s
  refine ⟨decodeTableWord_key k, ?_, ⟨rfl, rfl⟩, place_bufferOk s k _⟩
  rw [← tableRequest_instr k s.ext]
  exact step_place s _ _

end Sys2Proof.Machine

end

/-! PROOFS. Every read operation said once by the bytes it answers; from that each read's result, what its response leaves of the buffer,
and the answer of a read that any reads precede (40_read.md). -/

section

namespace Sys2Proof.Machine

variable {s : State} {i : Instr} {idx : Int} {buf : Buffer} {rest : List Request}

/-! ### What the reads emit -/

theorem emitWord_eq (v : Word) (hb : 12 ≤ buf.length) : emitWord v buf = (wordBytes v ++ buf.drop 4, 4) :=
  congrArg (·, 4) (memWrite_zero_eq v (Nat.le_trans (by decide) hb))

/-- The placeholder's three zero words are twelve zero bytes (40_read.md R82). -/
theorem emitPlaceholder_eq (hb : 12 ≤ buf.length) : emitPlaceholder buf = (List.replicate 12 0 ++ buf.drop 12, 12) := by
  match buf, hb with
  | _ :: _ :: _ :: _ :: _ :: _ :: _ :: _ :: _ :: _ :: _ :: _ :: _, _ => rfl

/-! ### The answer of a performed read -/

/-- The bytes that a performed read writes: those of the location it names, and for the placeholders zeros, as many as its LEN
(40_read.md R81 to R96). -/
def State.readPayload (i : Instr) (s : State) : List Byte :=
  match i.location with
  | some l => wordBytes (s.readLoc l)
  | none => List.replicate i.len 0

theorem readPayload_length (hr : i.isRead = true) (s : State) : (s.readPayload i).length = i.len := by
  cases i <;> cases hr <;> rfl

/-- A ready read entry answers the payload over the caller's buffer, when its inner operation emits that. -/
theorem readAccess_answers {op : Buffer → Buffer × Nat} (h : Ready s) (hb : 12 ≤ s.rbuf.length)
    (hop : op s.rbuf = (s.readPayload i ++ s.rbuf.drop i.len, i.len)) :
    readAccess idx op s = .next (s.respond (.read i.len (s.readPayload i ++ s.rbuf.drop i.len))) := by
  rw [readAccess_ready h hb, hop]

/-- Every read of a ready state answers its LEN and its payload before the caller's bytes from LEN on (40_read.md R80). -/
theorem exec_read_eq (hr : i.isRead = true) (h : Ready s) (hb : 12 ≤ s.rbuf.length) :
    exec i s = .next (s.respond (.read i.len (s.readPayload i ++ s.rbuf.drop i.len))) := by
  cases i <;> cases hr
  case rdFpx k => exact readAccess_answers h hb (emitPlaceholder_eq hb)
  case rdFpxX | rdFpsX | rdUnk => exact readAccess_answers h hb rfl
  all_goals exact readAccess_answers h hb (emitWord_eq _ hb)

/-! ### The results of the read operations -/

/-- Settles O10: the payload of RD_GPR is that of the register its index names. -/
theorem rdGprResult : Obligations.RdGprResult := fun n =>
  ⟨selectInstr_own (i := .rdGpr n) rfl rfl, fun _ h hb => exec_read_eq rfl h hb⟩

/-- Settles O11: RD_FPX names no location, so its twelve bytes are zeros. -/
theorem rdFpxResult : Obligations.RdFpxResult := fun k =>
  ⟨selectInstr_own (i := .rdFpx k) rfl rfl false, fun _ h hb => exec_read_eq rfl h hb⟩

/-- Settles O12: the two absent reads have no payload. -/
theorem rdAbsentResult : Obligations.RdAbsentResult :=
  ⟨fun k => selectInstr_own (i := .rdFpxX k) rfl rfl true, selectInstr_own (i := .rdFpsX) rfl rfl true,
    fun _ h hb => ⟨fun _ => exec_read_eq rfl h hb, exec_read_eq rfl h hb⟩⟩

/-- Settles O13: RD_FPS names no location, so its four bytes are zeros. -/
theorem rdFpsResult : Obligations.RdFpsResult :=
  ⟨selectInstr_own (i := .rdFps) rfl rfl false, fun _ h hb => exec_read_eq rfl h hb⟩

/-- In the states of the invariant the mask clears no bit of the status word (10_state.md R23). -/
theorem Inv.psrApplied_psr (hs : Inv s) : psrApplied s.psr = s.psr := by
  calc psrApplied s.psr
      = (s.psr &&& Config.psrReservedMask) ||| (s.psr &&& ~~~Config.psrReservedMask) := by
        rw [hs.psrReserved]
        exact BitVec.zero_or.symm
    _ = s.psr &&& (Config.psrReservedMask ||| ~~~Config.psrReservedMask) := BitVec.and_or_distrib_left.symm
    _ = s.psr := by rw [BitVec.or_not_self, BitVec.and_allOnes]

/-- Settles O14: the payload of RD_PSR is the status word's, which the invariant keeps free of reserved bits. -/
theorem rdPsrResult : Obligations.RdPsrResult :=
  ⟨selectInstr_own (i := .rdPsr) rfl rfl, fun _ h hb =>
    ⟨exec_read_eq rfl h hb, fun hs => congrArg wordBytes hs.psrApplied_psr.symm⟩⟩

/-- Settles O15: each of the eight operations is selected by its own index, and its payload is that of its own field. -/
theorem rdStoredSysResult : Obligations.RdStoredSysResult := by
  refine ⟨fun ext => ?_, fun s h hb => ?_⟩
  · have hselect {i : Instr} {idx : Int} := selectInstr_own (i := i) (idx := idx) (x := ext)
    exact ⟨hselect (i := .rdPid) rfl rfl, hselect (i := .rdCpctl) rfl rfl, hselect (i := .rdMask) rfl rfl,
      hselect (i := .rdBasemask) rfl rfl, hselect (i := .rdData) rfl rfl, hselect (i := .rdInsn) rfl rfl,
      hselect (i := .rdFsr) rfl rfl, hselect (i := .rdElr) rfl rfl⟩
  · have hread {i : Instr} (hr : i.isRead = true) := exec_read_eq hr h hb
    exact ⟨hread rfl, hread rfl, hread rfl, hread rfl, hread rfl, hread rfl, hread rfl, hread rfl⟩

/-- Settles O16: the location RD_MPID names reads as what is composed from MPID_SOURCE. -/
theorem rdMpidResult : Obligations.RdMpidResult :=
  ⟨selectInstr_own (i := .rdMpid) rfl rfl, fun _ h hb => exec_read_eq rfl h hb⟩

/-- Settles O17: RD_UNK is well-formed at an undefined index, which so selects it, and it has no payload. -/
theorem rdUnkResult : Obligations.RdUnkResult := by
  intro idx hidx
  have hwf : (Instr.rdUnk idx).wellFormed = true := by
    simp only [Instr.wellFormed, definedIndex, Bool.not_eq_true', decide_eq_false_iff_not]
    omega
  exact ⟨selectInstr_own (i := .rdUnk idx) hwf rfl, fun _ h hb => exec_read_eq rfl h hb⟩

/-! ### The read laws -/

/-- The buffer answered to a read of index `idx`: the payload of the operation selected, then the caller's bytes from LEN on. -/
def State.readResult (idx : Int) (buf : Buffer) (s : State) : Buffer :=
  s.readPayload (selectInstr false s.ext idx) ++ buf.drop (readLen s.ext idx)

theorem readLen_le_twelve (ext : Bool) (idx : Int) : readLen ext idx ≤ 12 := by
  unfold readLen
  split_ifs <;> decide

theorem selected_readPayload_length (s : State) (idx : Int) :
    (s.readPayload (selectInstr false s.ext idx)).length = readLen s.ext idx :=
  (readPayload_length (selectInstr_isRead s.ext idx) s).trans (selectInstr_len false s.ext idx)

/-- The first LEN bytes answered do not come from the caller's buffer (40_read.md R97). -/
theorem readResult_take (s : State) (idx : Int) (buf : Buffer) :
    (s.readResult idx buf).take (readLen s.ext idx) = s.readPayload (selectInstr false s.ext idx) :=
  List.take_left' (selected_readPayload_length s idx)

/-- The bytes from LEN on are the caller's (40_read.md R97). -/
theorem readResult_beyond_len (s : State) (idx : Int) (buf : Buffer) {k : Nat} (hk : readLen s.ext idx ≤ k) :
    (s.readResult idx buf)[k]? = buf[k]? := by
  have hlen := selected_readPayload_length s idx
  rw [State.readResult, List.getElem?_append_right (hlen ▸ hk), hlen, List.getElem?_drop, Nat.add_sub_cancel' hk]

theorem readResult_length (s : State) (idx : Int) (hb : 12 ≤ buf.length) : (s.readResult idx buf).length = buf.length := by
  have hlen := readLen_le_twelve s.ext idx
  rw [State.readResult, List.length_append, selected_readPayload_length, List.length_drop]
  omega

/-- The response to a read of index `idx` with the buffer `buf`. -/
def State.readAnswer (idx : Int) (buf : Buffer) (s : State) : Response := .read (readLen s.ext idx) (s.readResult idx buf)

/-- The block's turn at a read request with a large enough buffer. -/
theorem step_read (h : Ready s) (hs : s.schedule = []) (hb : 12 ≤ buf.length) (hreq : s.requests = .read idx buf :: rest) :
    step s = .next (s.respond (s.readAnswer idx buf)) := by
  have hbuf := rbuf_read hreq
  have hexec := exec_read_eq (selectInstr_isRead s.ext idx) h (hbuf.symm ▸ hb)
  rw [selectInstr_len, hbuf] at hexec
  exact (step_of_request hs hreq).trans hexec

/-- What a read answers does not depend on the responses given before it. -/
theorem readAnswer_respond (s : State) (r : Response) (idx : Int) (buf : Buffer) :
    (s.respond r).readAnswer idx buf = s.readAnswer idx buf := rfl

/-- A read answers after any reads what it would answer before them (40_read.md R97), by induction on the reads between. -/
theorem run_reads_then_read (h : Ready s) (hs : s.schedule = []) (mid : List Request)
    (hmid : ∀ r ∈ mid, ∃ j b, r = .read j b ∧ 12 ≤ b.length) (hb : 12 ≤ buf.length)
    (hreq : s.requests = mid ++ .read idx buf :: rest) :
    ∃ t new, core.run (mid.length + 1) s = .next t ∧ new.length = mid.length ∧
      t.responses = s.readAnswer idx buf :: (new ++ s.responses) := by
  induction mid generalizing s with
  | nil => exact ⟨_, [], (run_one core s).trans (step_read h hs hb hreq), rfl, rfl⟩
  | cons r mid ih =>
    obtain ⟨⟨j, b, rfl, hbj⟩, hrest⟩ := List.forall_mem_cons.1 hmid
    obtain ⟨t, new, hrun, hnew, hresp⟩ := ih (s := s.respond (s.readAnswer j b)) h hs hrest (congrArg List.tail hreq)
    refine ⟨t, new ++ [s.readAnswer j b], (core_run_succ _ (step_read h hs hbj hreq)).trans hrun, by simp [hnew], ?_⟩
    rw [hresp, readAnswer_respond, List.append_assoc]
    rfl

/-- Settles O36: one step answers the payload over the caller's bytes, and a later read's payload is the same. -/
theorem readLaws : Obligations.ReadLaws := by
  intro s idx buf rest h hs hb hreq
  have hstep := step_read h hs hb hreq
  constructor
  · refine ⟨s.readResult idx buf, ?_, readResult_length s idx hb, fun k hk => readResult_beyond_len s idx buf hk⟩
    rw [hstep, State.respond, hreq]
    rfl
  · rintro mid buf2 rest2 hmid hb2 rfl
    obtain ⟨t, new, hrun, hnew, hresp⟩ :=
      run_reads_then_read (s := s.respond (s.readAnswer idx buf)) h hs mid hmid hb2 (congrArg List.tail hreq)
    refine ⟨t, _, _, _, new, (core_run_succ _ hstep).trans hrun, hresp, hnew, ?_⟩
    exact (readResult_take s idx buf2).trans (readResult_take s idx buf).symm

end Sys2Proof.Machine

end

/-! PROOFS. The writes said by the word their location then holds; from that each write's result, what a read of the same index answers
after it, and the round trips (41_write.md). -/

section

namespace Sys2Proof.Machine

variable {s : State} {i : Instr} {idx : Int} {v : Word} {b buf : Buffer} {b0 b1 b2 b3 : Byte} {tl : Buffer} {rest : List Request}
  {l : Loc}

/-! ### The results of the write operations -/

/-- WR_GPR is well-formed at every other general register than the program counter (30_encoding.md R65). -/
theorem selectInstr_wrGpr {n : Fin 16} (hn : n ≠ 15) (ext : Bool) : selectInstr true ext n.val = .wrGpr n :=
  selectInstr_own (i := .wrGpr n) (decide_eq_true hn) rfl ext

theorem selectInstr_wrPc (ext : Bool) : selectInstr true ext 15 = .wrPc := selectInstr_own (i := .wrPc) rfl rfl ext

theorem selectInstr_wrFpx (k : Fin 8) : selectInstr true false (16 + k.val) = .wrFpx k := selectInstr_own (i := .wrFpx k) rfl rfl false

theorem selectInstr_wrMpid (ext : Bool) : selectInstr true ext 33 = .wrMpid := selectInstr_own (i := .wrMpid) rfl rfl ext

/-- Every write of a ready state that is passed four bytes stores their word and answers its LEN (41_write.md R100). -/
theorem exec_write_bytes (hw : i.isWrite = true) (h : Ready s) (hb : s.wbuf = b0 :: b1 :: b2 :: b3 :: tl) :
    exec i s = .next ((i.store (b3 ++ b2 ++ b1 ++ b0) s).respond (.write i.len)) :=
  exec_write_ready hw h (congrArg memRead hb)

/-- Settles O18: the location that WR_GPR names is the register of its index, and the word is stored to it as it is. -/
theorem wrGprResult : Obligations.WrGprResult := fun _ hn =>
  ⟨selectInstr_wrGpr hn, fun _ _ _ _ _ _ h hb => exec_write_bytes rfl h hb⟩

/-- The program counter's mask clears bit 0 and keeps every other bit (41_write.md R102). -/
theorem pcValue_getLsbD_of_pos (v : Word) {j : Nat} (hj : 1 ≤ j) : (pcValue v).getLsbD j = v.getLsbD j := by
  have hmask : (0xFFFFFFFE : Word) = ~~~1#32 := by decide
  have hj0 : j ≠ 0 := by omega
  have hone : (1#32).getLsbD j = false := by simp [BitVec.getLsbD_one, hj0]
  rw [pcValue, hmask, BitVec.getLsbD_and, BitVec.getLsbD_not, hone]
  simpa using BitVec.lt_of_getLsbD

/-- Settles O19: WR_PC stores the word under the program counter's mask. -/
theorem wrPcResult : Obligations.WrPcResult :=
  ⟨selectInstr_wrPc, fun v => ⟨pcValue_bit_zero v, fun _ hj => pcValue_getLsbD_of_pos v hj⟩,
    fun _ _ _ _ _ _ h hb => exec_write_bytes rfl h hb⟩

/-- Settles O21: the two absent writes name no location and have LEN 0. -/
theorem wrAbsentResult : Obligations.WrAbsentResult :=
  ⟨fun k => selectInstr_own (i := .wrFpxX k) rfl rfl true, selectInstr_own (i := .wrFpsX) rfl rfl true,
    fun _ _ _ _ _ _ h hb => ⟨fun _ => exec_write_bytes rfl h hb, exec_write_bytes rfl h hb⟩⟩

/-- Settles O22: WR_FPS names no location, so not the status word either. -/
theorem wrFpsResult : Obligations.WrFpsResult :=
  ⟨selectInstr_own (i := .wrFps) rfl rfl false, fun _ _ _ _ _ _ h hb => exec_write_bytes rfl h hb⟩

/-- Settles O24: each of the eight operations is selected by its own index and stores the word to its own field. -/
theorem wrStoredSysResult : Obligations.WrStoredSysResult := by
  refine ⟨fun ext => ?_, fun b0 b1 b2 b3 tl s h hb => ?_⟩
  · have hselect {i : Instr} {idx : Int} := selectInstr_own (i := i) (idx := idx) (x := ext)
    exact ⟨hselect (i := .wrPid) rfl rfl, hselect (i := .wrCpctl) rfl rfl, hselect (i := .wrMask) rfl rfl,
      hselect (i := .wrBasemask) rfl rfl, hselect (i := .wrData) rfl rfl, hselect (i := .wrInsn) rfl rfl,
      hselect (i := .wrFsr) rfl rfl, hselect (i := .wrElr) rfl rfl⟩
  · have hwrite {i : Instr} (hw : i.isWrite = true) := exec_write_bytes hw h hb
    exact ⟨hwrite rfl, hwrite rfl, hwrite rfl, hwrite rfl, hwrite rfl, hwrite rfl, hwrite rfl, hwrite rfl⟩

/-- Settles O26: WR_UNK is well-formed at an undefined index, which so selects it, and it names no location. -/
theorem wrUnkResult : Obligations.WrUnkResult := by
  intro idx hidx
  have hwf : (Instr.wrUnk idx).wellFormed = true := by
    simp only [Instr.wellFormed, definedIndex, Bool.not_eq_true', decide_eq_false_iff_not]
    omega
  exact ⟨selectInstr_own (i := .wrUnk idx) hwf rfl, fun _ _ _ _ _ _ h hb => exec_write_bytes rfl h hb⟩

/-! ### A read of the index just written -/

/-- The state after the block's turn at a write of `v` to index `idx`. -/
def State.afterWrite (idx : Int) (v : Word) (s : State) : State :=
  ((selectInstr true s.ext idx).store v s).respond (.write (writeLen s.ext idx))

/-- The block's turn at a write request with four bytes or more. -/
theorem step_write (h : Ready s) (hs : s.schedule = []) (hv : memRead b = some v) (hreq : s.requests = .write idx b :: rest) :
    step s = .next (s.afterWrite idx v) := by
  have hexec := exec_write_ready (selectInstr_isWrite s.ext idx) h ((wbuf_write hreq).symm ▸ hv)
  rw [selectInstr_len] at hexec
  exact (step_of_request hs hreq).trans hexec

theorem afterWrite_eq (idx : Int) (v : Word) (s : State) : s.afterWrite idx v =
    { s with rf := ((selectInstr true s.ext idx).store v s).rf, psr := ((selectInstr true s.ext idx).store v s).psr,
             requests := s.requests.tail, responses := .write (writeLen s.ext idx) :: s.responses, unanswered := false } :=
  store_respond _ v s _

/-- A write and then a read of the same index, each performed: the read answers from the state that the write left. -/
theorem run_write_then_read (h : Ready s) (hs : s.schedule = []) (hv : memRead b = some v) (hbuf : 12 ≤ buf.length)
    (hreq : s.requests = .write idx b :: .read idx buf :: rest) :
    core.run 2 s = .next ((s.afterWrite idx v).respond ((s.afterWrite idx v).readAnswer idx buf)) := by
  have hread : step (s.afterWrite idx v) = .next ((s.afterWrite idx v).respond ((s.afterWrite idx v).readAnswer idx buf)) := by
    rw [afterWrite_eq]
    exact step_read h hs hbuf (congrArg List.tail hreq)
  exact (core_run_succ 1 (step_write h hs hv hreq)).trans ((run_one core _).trans hread)

/-! ### Writes that store nothing -/

theorem store_eq_self (hl : i.location = none) (v : Word) (s : State) : i.store v s = s := by
  cases i <;> cases hl <;> rfl

theorem afterWrite_of_no_location (hl : (selectInstr true s.ext idx).location = none) (v : Word) :
    s.afterWrite idx v = s.respond (.write (writeLen s.ext idx)) := by
  rw [State.afterWrite, store_eq_self hl]

/-- After a write that stores nothing a read answers what it would have answered before. -/
theorem run_discarded_write_then_read (h : Ready s) (hs : s.schedule = []) (hb : 4 ≤ b.length) (hbuf : 12 ≤ buf.length)
    (hl : (selectInstr true s.ext idx).location = none) (hreq : s.requests = .write idx b :: .read idx buf :: rest) :
    core.run 2 s = .next ((s.respond (.write (writeLen s.ext idx))).respond (s.readAnswer idx buf)) := by
  obtain ⟨b0, b1, b2, b3, tl, rfl⟩ := exists_four_bytes hb
  rw [run_write_then_read h hs rfl hbuf hreq, afterWrite_of_no_location hl, readAnswer_respond]

/-- Twelve zero bytes are answered at a legacy slot in legacy mode (40_read.md R82). -/
theorem readAnswer_legacy_slot (k : Fin 8) (hext : s.ext = false) (buf : Buffer) :
    s.readAnswer (16 + k.val) buf = .read 12 (List.replicate 12 0 ++ buf.drop 12) := by
  have hselect : selectInstr false false (16 + k.val) = .rdFpx k := selectInstr_own (i := .rdFpx k) rfl rfl false
  have hlen : readLen false (16 + k.val) = 12 := (selectInstr_len false _ _).symm.trans (congrArg Instr.len hselect)
  rw [State.readAnswer, State.readResult, hext, hselect, hlen]
  rfl

/-- Settles O20: WR_FPX names no location, so a read of the slot is answered as without the write. -/
theorem wrFpxResult : Obligations.WrFpxResult := by
  refine fun k => ⟨selectInstr_wrFpx k, fun _ _ _ _ _ _ h hb => exec_write_bytes rfl h hb,
    fun s b buf rest h hext hs hb hbuf hreq => ?_⟩
  have hselect : selectInstr true s.ext (16 + k.val) = .wrFpx k := by rw [hext, selectInstr_wrFpx]
  have hlen : writeLen s.ext (16 + k.val) = 12 := (selectInstr_len true _ _).symm.trans (congrArg Instr.len hselect)
  rw [run_discarded_write_then_read h hs hb hbuf (congrArg Instr.location hselect) hreq, readAnswer_legacy_slot k hext, hlen,
    State.respond, State.respond, hreq]
  rfl

/-- Settles O25: WR_MPID names no location, so the read after it answers as the read instead of it. -/
theorem wrMpidResult : Obligations.WrMpidResult := by
  refine ⟨selectInstr_wrMpid, fun _ _ _ _ _ _ h hb => exec_write_bytes rfl h hb, fun s b buf rest h hs hb hbuf hreq => ?_⟩
  have hl : (selectInstr true s.ext 33).location = none := congrArg Instr.location (selectInstr_wrMpid s.ext)
  exact ⟨_, _, s.readAnswer 33 buf, run_discarded_write_then_read h hs hb hbuf hl hreq,
    step_read (s := s.withRequests (.read 33 buf :: rest)) h hs hbuf rfl, rfl, rfl⟩

/-! ### Writes that store their word -/

/-- The word that the location of index `idx` holds after a write of `v`: verbatim but for the program counter and the status word
(41_write.md R101, R102, R107, R108 to R116). -/
def writtenWord (idx : Int) (v : Word) : Word := if idx = 15 then pcValue v else if idx = 25 then psrApplied v else v

theorem readLoc_store_self (hwf : i.wellFormed = true) (hw : i.isWrite = true) (hi : i.index = some idx)
    (hl : i.location = some l) (v : Word) (s : State) : (i.store v s).readLoc l = writtenWord idx v := by
  cases i <;> cases hw <;> cases hl <;> cases hi
  case wrGpr n =>
    have hn : n.val ≠ 15 := fun h15 => of_decide_eq_true hwf (Fin.ext h15)
    rw [writtenWord, if_neg (by omega), if_neg (by omega)]
    exact Vector.getElem_set_self n.isLt
  case wrPc => exact Vector.getElem_set_self (by decide)
  all_goals rfl

/-- The indices whose writes store: 0 to 32 without the legacy slots and status, and 34 (41_write.md R119). -/
abbrev StoredIndex (idx : Int) : Prop := 0 ≤ idx ∧ idx ≤ 15 ∨ 25 ≤ idx ∧ idx ≤ 32 ∨ idx = 34

theorem roleInstr_location_stored : ∀ (ext : Bool) (n : Fin 35), StoredIndex n.val →
    (roleInstr true ext n.val (resolve n.val)).location = (roleInstr false ext n.val (resolve n.val)).location ∧
    (roleInstr true ext n.val (resolve n.val)).location.isSome = true := by decide

/-- At a stored index the write and the read name one location. -/
theorem selectInstr_location_stored (ext : Bool) (hidx : StoredIndex idx) :
    ∃ l, (selectInstr true ext idx).location = some l ∧ (selectInstr false ext idx).location = some l := by
  obtain ⟨n, rfl⟩ := Int.eq_ofNat_of_zero_le (show 0 ≤ idx by omega)
  obtain ⟨hsame, hsome⟩ := roleInstr_location_stored ext ⟨n, by omega⟩ hidx
  obtain ⟨l, hl⟩ := Option.isSome_iff_exists.1 hsome
  rw [selectInstr_eq_roleInstr, selectInstr_eq_roleInstr]
  exact ⟨l, hl, hsame.symm.trans hl⟩

theorem accessLen_stored (w ext : Bool) (hidx : StoredIndex idx) : accessLen w ext idx = 4 := by
  unfold accessLen writeLen readLen
  split_ifs <;> omega

/-- A read at a stored index answers the bytes of the location it names. -/
theorem readAnswer_stored (hidx : StoredIndex idx) (hl : (selectInstr false s.ext idx).location = some l) (buf : Buffer) :
    s.readAnswer idx buf = .read 4 (wordBytes (s.readLoc l) ++ buf.drop 4) := by
  have hlen : readLen s.ext idx = 4 := accessLen_stored false s.ext hidx
  rw [State.readAnswer, State.readResult, State.readPayload, hl, hlen]

/-- The word written, as its location keeps it, is what a read of the index answers next (41_write.md R119). -/
theorem readAnswer_afterWrite (hidx : StoredIndex idx) (v : Word) (buf : Buffer) (s : State) :
    (s.afterWrite idx v).readAnswer idx buf = .read 4 (wordBytes (writtenWord idx v) ++ buf.drop 4) := by
  obtain ⟨l, hwrite, hread⟩ := selectInstr_location_stored s.ext hidx
  obtain ⟨hwf, hindex⟩ := selectInstr_wellFormed_index true s.ext idx
  have hext : (s.afterWrite idx v).ext = s.ext := by rw [afterWrite_eq]
  have hloc : (s.afterWrite idx v).readLoc l = writtenWord idx v :=
    readLoc_store_self hwf (selectInstr_isWrite s.ext idx) hindex hwrite v s
  rw [readAnswer_stored hidx (hext.symm ▸ hread), hloc]

theorem run_stored_write_then_read (h : Ready s) (hs : s.schedule = []) (hv : memRead b = some v) (hbuf : 12 ≤ buf.length)
    (hidx : StoredIndex idx) (hreq : s.requests = .write idx b :: .read idx buf :: rest) :
    ∃ t, core.run 2 s = .next t ∧
      t.responses = .read 4 (wordBytes (writtenWord idx v) ++ buf.drop 4) :: .write 4 :: s.responses := by
  have hlen : writeLen s.ext idx = 4 := accessLen_stored true s.ext hidx
  refine ⟨_, run_write_then_read h hs hv hbuf hreq, ?_⟩
  rw [readAnswer_afterWrite hidx, State.respond_responses, afterWrite_eq, hlen]

/-- Settles O23: WR_PSR applies the word, and the read of index 25 answers what the status word then holds. -/
theorem wrPsrResult : Obligations.WrPsrResult :=
  ⟨selectInstr_own (i := .wrPsr) rfl rfl, fun _ _ _ _ _ _ h hb => exec_write_bytes rfl h hb,
    fun _ _ _ _ _ _ _ _ h hs hbuf hreq => run_stored_write_then_read h hs rfl hbuf (by decide) hreq⟩

/-! ### The bytes of the stored word -/

theorem wordBytes_concat (b0 b1 b2 b3 : Byte) : wordBytes (b3 ++ b2 ++ b1 ++ b0) = [b0, b1, b2, b3] := by
  simp only [wordBytes, BitVec.extractLsb'_append_eq_ite]
  simp

theorem wordBytes_and (v w : Word) : wordBytes (v &&& w) = List.zipWith (· &&& ·) (wordBytes v) (wordBytes w) := by
  simp [wordBytes, BitVec.extractLsb'_and]

theorem wordBytes_pcValue (b0 b1 b2 b3 : Byte) :
    wordBytes (pcValue (b3 ++ b2 ++ b1 ++ b0)) = [b0 &&& 0xFE, b1, b2, b3] := by
  have hmask : wordBytes 0xFFFFFFFE = [0xFE, BitVec.allOnes 8, BitVec.allOnes 8, BitVec.allOnes 8] := by decide
  rw [pcValue, wordBytes_and, wordBytes_concat, hmask]
  simp only [List.zipWith, BitVec.and_allOnes]

theorem wordBytes_writtenWord (idx : Int) (b0 b1 b2 b3 : Byte) :
    wordBytes (writtenWord idx (b3 ++ b2 ++ b1 ++ b0)) =
      if idx = 15 then [b0 &&& 0xFE, b1, b2, b3]
      else if idx = 25 then wordBytes (psrApplied (b3 ++ b2 ++ b1 ++ b0))
      else [b0, b1, b2, b3] := by
  unfold writtenWord
  split_ifs
  · exact wordBytes_pcValue b0 b1 b2 b3
  · rfl
  · exact wordBytes_concat b0 b1 b2 b3

/-! ### The round-trip laws -/

theorem memRead_wordBytes (v : Word) : memRead (wordBytes v) = some v := congrArg some (concat_extracted_bytes v)

theorem writeX_readX (n : Fin 16) (s : State) : s.writeX n (s.readX n) = s := by
  simp [State.writeX, State.readX]

/-- A register's own value written back changes nothing but bit 0 of the program counter (41_write.md R119). -/
theorem afterWrite_readX (n : Fin 16) (s : State) :
    s.afterWrite n.val (s.readX n) =
      { s with rf := if n = 15 then { s.rf with x := s.rf.x.set 15 (s.rf.x[15] &&& 0xFFFFFFFE) } else s.rf
               requests := s.requests.tail, unanswered := false, responses := .write 4 :: s.responses } := by
  have hlen : writeLen s.ext n.val = 4 := accessLen_stored true s.ext (.inl (by omega))
  rw [State.afterWrite, hlen]
  by_cases hn : n = 15
  · subst hn
    exact congrArg (fun i => (Instr.store i _ s).respond _) (selectInstr_wrPc s.ext)
  · rw [selectInstr_wrGpr hn, if_neg hn]
    exact congrArg (State.respond _) (writeX_readX n s)

/-- The block's turn at a read of a general register answers its bytes (40_read.md R81). -/
theorem step_read_gpr (h : Ready s) (hs : s.schedule = []) (hbuf : 12 ≤ buf.length) (n : Fin 16)
    (hreq : s.requests = .read n.val buf :: rest) :
    step s = .next { s with requests := rest, unanswered := false,
                            responses := .read 4 (wordBytes (s.readX n) ++ buf.drop 4) :: s.responses } := by
  have hl : (selectInstr false s.ext n.val).location = some (.x n) :=
    congrArg Instr.location (selectInstr_own (i := .rdGpr n) rfl rfl s.ext)
  rw [step_read h hs hbuf hreq, readAnswer_stored (.inl (by omega)) hl, State.respond, hreq]
  rfl

/-- Settles O42: a register's bytes are read as its value's and written back as such; at the stored indices the read answers the word
written as its location keeps it; and WR_MPID names no location. -/
theorem roundTripLaws : Obligations.RoundTripLaws := by
  refine ⟨fun s n buf rest h hs hbuf hreq => ?_, fun s i b0 b1 b2 b3 tl buf rest h hs hbuf hreq hidx => ?_,
    fun s b rest h hs hb hreq => ?_⟩
  · refine ⟨wordBytes (s.readX n) ++ buf.drop 4, step_read_gpr h hs hbuf n hreq, ?_⟩
    exact (step_write (s := (s.respond _).withRequests (.write n.val _ :: rest)) h hs (memRead_wordBytes (s.readX n)) rfl).trans
      (congrArg _ (afterWrite_readX n _))
  · obtain ⟨t, hrun, hresp⟩ := run_stored_write_then_read h hs rfl hbuf hidx hreq
    exact ⟨t, hrun, by rw [hresp, wordBytes_writtenWord]; rfl⟩
  · obtain ⟨b0, b1, b2, b3, tl, rfl⟩ := exists_four_bytes hb
    have hl : (selectInstr true s.ext 33).location = none := congrArg Instr.location (selectInstr_wrMpid s.ext)
    rw [step_write h hs rfl hreq, afterWrite_of_no_location hl, State.respond, hreq]
    rfl

end Sys2Proof.Machine

end

/-! PROOFS. The mode flag: what SESSION_BEGIN leaves, and which operations and which turns of a step can change it (42_session.md). -/

section

namespace Sys2Proof.Machine

variable {s t u : State} {i : Instr}

/-- Settles O27: EXT_INIT is legacy mode, and SESSION_BEGIN is behind the gate of every request. -/
theorem sessionBeginResult : Obligations.SessionBeginResult :=
  ⟨rfl, fun e _ => ⟨fun h => exec_sessionBegin_ready h e, fun hf => exec_faulted hf _, fun hf hc => exec_held hf hc _⟩⟩

theorem Stores.ext (h : Stores s i u) : u.ext = s.ext := by
  cases h <;> rfl

/-- No operation but SESSION_BEGIN writes the mode flag (42_session.md R131). -/
theorem exec_ext (hi : ∀ e, i ≠ .sessionBegin e) (h : exec i s = .next t) : t.ext = s.ext := by
  cases exec_next h with
  | held | raised => rfl
  | answered u r hu _ => exact hu.ext
  | session e => exact absurd rfl (hi e)

/-- No access selects SESSION_BEGIN, the only operation without an index (30_encoding.md R64). -/
theorem selectInstr_ne_sessionBegin (w ext : Bool) (idx : Int) (e : Bool) : selectInstr w ext idx ≠ .sessionBegin e := by
  intro h
  obtain ⟨-, hindex⟩ := selectInstr_wellFormed_index w ext idx
  rw [h] at hindex
  cases hindex

/-- The block's turn changes the mode flag only where the request it serves is a session begin (42_session.md R131, R132). -/
theorem serve_changes_ext (h : serve s = .next t) (hext : t.ext ≠ s.ext) : ∃ e rest, s.requests = .session e :: rest := by
  obtain ⟨-, rfl⟩ | ⟨r, l, hreq, hexec⟩ := serve_next h
  · exact absurd rfl hext
  cases r with
  | read idx b => exact absurd (exec_ext (selectInstr_ne_sessionBegin false s.ext idx) hexec) hext
  | write idx b => exact absurd (exec_ext (selectInstr_ne_sessionBegin true s.ext idx) hexec) hext
  | session e => exact ⟨e, l, hreq⟩

/-- Of the environment's turns only a peer's session begin and a block reset change the mode flag (log entries 13, 14). -/
theorem applyEnv_changes_ext {e : EnvEvent} (hext : (s.applyEnv e).ext ≠ s.ext) :
    (∃ b, e = .peerSession b) ∨ e = .resetBlock := by
  cases e with
  | peerSession b => exact .inl ⟨b, rfl⟩
  | resetBlock => exact .inr rfl
  | cpuRuns rf p => by_cases hc : s.cpuHalted = true <;> simp [State.applyEnv, hc] at hext
  | haltCpu | resumeCpu | cpuReset => exact absurd rfl hext

/-- Settles O39: no store of an operation reaches the mode flag, and a step is the block's turn or the environment's. -/
theorem extWrittenOnlyBySession : Obligations.ExtWrittenOnlyBySession := by
  refine ⟨fun i s t hi h => exec_ext hi h, fun s t h hext => ?_⟩
  obtain ⟨hsched, hserve⟩ | ⟨rest, hsched, hserve⟩ | ⟨e, rest, hsched, rfl⟩ := step_next h
  · exact .inr (.inr ⟨.inl hsched, serve_changes_ext hserve hext⟩)
  · exact .inr (.inr ⟨.inr ⟨rest, hsched⟩, serve_changes_ext (s := s.setSchedule rest) hserve hext⟩)
  · obtain ⟨b, rfl⟩ | rfl := applyEnv_changes_ext (s := s.setSchedule rest) hext
    · exact .inl ⟨b, rest, hsched⟩
    · exact .inr (.inl ⟨rest, hsched⟩)

end Sys2Proof.Machine

end

/-! PROOFS. The checks of a request in their order, what a model fault and a hold leave, the accesses of length 0, and the environment's
turns (60_exceptions.md). -/

section

namespace Sys2Proof.Machine

variable {s : State} {i : Instr} {idx : Int} {rest : List Turn}

/-! ### The environment's turns -/

theorem step_env {e : EnvEvent} (hs : s.schedule = .env e :: rest) : step s = .next ((s.setSchedule rest).applyEnv e) := by
  simp [step, hs]

/-- A halted CPU stores nothing (20_memory.md R52). -/
theorem applyEnv_cpuRuns_halted (hc : s.cpuHalted = true) (rf : RegFile) (p : Word) : s.applyEnv (.cpuRuns rf p) = s :=
  if_pos hc

theorem applyEnv_cpuRuns_running (hc : s.cpuHalted = false) (rf : RegFile) (p : Word) :
    s.applyEnv (.cpuRuns rf p) = s.cpuStores rf p :=
  if_neg (by simp [hc])

/-- Settles O47: a turn of the environment is its event's effect; the CPU's stores alone look at the halt. -/
theorem environmentTurns : Obligations.EnvironmentTurns := by
  refine fun s rest rf p e => ⟨step_env, step_env, fun hs hc => ?_, fun hs hc => ?_, step_env, step_env⟩
  · exact (step_env hs).trans (congrArg _ (applyEnv_cpuRuns_halted (s := s.setSchedule rest) hc rf p))
  · exact (step_env hs).trans (congrArg _ (applyEnv_cpuRuns_running (s := s.setSchedule rest) hc rf p))

/-! ### The hold -/

theorem step_idle (hs : s.schedule = []) (hreq : s.requests = []) : step s = .next s := by
  simp [step, hs, serve, hreq]

/-- The block's turn changes nothing while the CPU runs, whether a request waits or not (60_exceptions.md R143). -/
theorem step_held (hf : s.faulted = false) (hc : s.cpuHalted = false) (hs : s.schedule = []) : step s = .next s := by
  cases hreq : s.requests with
  | nil => exact step_idle hs hreq
  | cons r l => rw [step_of_request hs hreq, exec_held hf hc]

/-- A machine whose step leaves a state as it is stays there. -/
theorem run_of_step_self (M : Host.Core) {u : M.State} (h : M.step u = .next u) (n : Nat) : M.run n u = .next u := by
  induction n with
  | zero => rfl
  | succ n ih => rw [run_succ_of_next M n u u h, ih]

/-- Settles O30: no operation gets past the gate of a running CPU, so the block's step stays where it is until the halt. -/
theorem requestHeldUntilCpuHalted : Obligations.RequestHeldUntilCpuHalted := by
  refine fun s hf hc => ⟨exec_held hf hc, fun hs => run_of_step_self core (step_held hf hc hs), fun rest => step_env,
    fun r l hs hreq => ?_⟩
  have hserve := step_of_request (s := (s.setSchedule []).applyEnv .haltCpu) rfl hreq
  exact (core_run_succ 1 (step_env hs)).trans ((run_one core _).trans hserve)

/-! ### The model faults -/

/-- The model fault of an operation whose buffer is too small (60_exceptions.md R142). -/
def State.bufferFault (i : Instr) (idx : Int) (s : State) : ModelFault :=
  if i.isWrite then .writeBufferShort s.wbuf.length idx else .readBufferSmall s.rbuf.length idx

theorem bufferFault_read (hw : i.isWrite = false) : s.bufferFault i idx = .readBufferSmall s.rbuf.length idx :=
  if_neg (by simp [hw])

theorem bufferFault_write (hw : i.isWrite = true) : s.bufferFault i idx = .writeBufferShort s.wbuf.length idx :=
  if_pos hw

theorem bufferFault_code (i : Instr) (idx : Int) (s : State) : (s.bufferFault i idx).code = if i.isWrite then 2 else 1 :=
  apply_ite ModelFault.code _ _ _

/-- A ready state with too small a buffer raises the model fault, whatever the index (60_exceptions.md R144). -/
theorem exec_short (h : Ready s) (hi : i.index = some idx)
    (hb : i.isWrite = false ∧ s.rbuf.length < 12 ∨ i.isWrite = true ∧ s.wbuf.length < 4) :
    exec i s = .next (s.raise (s.bufferFault i idx)) := by
  obtain ⟨hw, hb⟩ | ⟨hw, hb⟩ := hb
  · obtain ⟨op, hexec, -⟩ := exec_read_form i idx hi hw
    rw [hexec, readAccess_short h hb, bufferFault_read hw]
  · rw [exec_write_eq hw hi, writeAccess_short h hb, bufferFault_write hw]

/-- Settles O29: raising a model fault sets the mark, its record and the interface only, and the mark stops every operation. -/
theorem modelFaultEffect : Obligations.ModelFaultEffect := fun i s idx h hi hb =>
  ⟨s.raise (s.bufferFault i idx), s.bufferFault i idx, exec_short h hi hb, rfl, rfl, rfl, bufferFault_code i idx s,
    rfl, rfl, rfl, rfl, rfl, rfl, rfl, exec_faulted rfl⟩

/-! ### The accesses that complete -/

/-- Every access of a ready state with a large enough buffer completes with its LEN; but for the interface it changes the register file
and the status word at most, and neither when it names no location (60_exceptions.md R140, R154). -/
theorem exec_access_ready (hi : i.index.isSome = true) (h : Ready s) (hb : s.bufferOk i) :
    ∃ r rf p, exec i s = .next { s.respond r with rf := rf, psr := p } ∧ r.len = i.len ∧
      (i.location = none → rf = s.rf ∧ p = s.psr) := by
  obtain ⟨hread, hwrite⟩ := hb
  cases hw : i.isWrite with
  | false =>
    have hr : i.isRead = true := by simp [Instr.isRead, hi, hw]
    exact ⟨_, s.rf, s.psr, exec_read_eq hr h (hread hr), rfl, fun _ => ⟨rfl, rfl⟩⟩
  | true =>
    obtain ⟨b0, b1, b2, b3, tl, hbytes⟩ := exists_four_bytes (hwrite hw)
    have hexec := exec_write_bytes hw h hbytes
    refine ⟨_, _, _, hexec.trans (congrArg _ (store_respond i _ s _)), rfl, fun hl => ?_⟩
    rw [store_eq_self hl]
    exact ⟨rfl, rfl⟩

/-- Settles O28: the gate makes the first two checks, a small buffer faults, and what is left completes. -/
theorem checkOrder : Obligations.CheckOrder := by
  refine fun i s => ⟨fun hf => exec_faulted hf i, fun hf hc => exec_held hf hc i, fun idx h hi hw hb => ?_,
    fun idx h hi hw hb => ?_, fun h hb => ?_⟩
  · rw [exec_short h hi (.inl ⟨hw, hb⟩), bufferFault_read hw]
  · rw [exec_short h hi (.inr ⟨hw, hb⟩), bufferFault_write hw]
  · cases hi : i.index with
    | none =>
      obtain ⟨e, rfl⟩ := eq_sessionBegin_of_index hi
      exact ⟨_, exec_sessionBegin_ready h e, h.1, rfl, rfl⟩
    | some idx =>
      obtain ⟨r, rf, p, hexec, -⟩ := exec_access_ready (Option.isSome_of_eq_some hi) h hb
      exact ⟨_, hexec, h.1, rfl, rfl⟩

/-! ### The accesses of length 0 -/

/-- The table of the causes of a zero length (60_exceptions.md R141). -/
def accessCause (w ext : Bool) (idx : Int) : Option Cause :=
  if idx < 0 ∨ 34 < idx then some .unknown
  else if 16 ≤ idx ∧ idx ≤ 24 ∧ ext = true then some .absentInMode
  else if w = true ∧ idx = 33 then some .readOnly
  else none

theorem roleInstr_cause_defined : ∀ (w ext : Bool) (n : Fin 35),
    (roleInstr w ext n.val (resolve n.val)).unsupportedCause = accessCause w ext n.val := by decide

/-- The selected operation carries the table's cause. -/
theorem selectInstr_cause (w ext : Bool) (idx : Int) : (selectInstr w ext idx).unsupportedCause = accessCause w ext idx := by
  rw [selectInstr_eq_roleInstr]
  by_cases hdef : 0 ≤ idx ∧ idx ≤ 34
  · obtain ⟨n, rfl⟩ := Int.eq_ofNat_of_zero_le hdef.1
    exact roleInstr_cause_defined w ext ⟨n, by omega⟩
  · rw [Laws.IndexRole.resolve_undefined (by simpa [definedIndex] using hdef), accessCause, if_pos (by omega)]
    cases w <;> rfl

/-- The accesses with a cause are those of length 0. -/
theorem len_eq_zero_iff_cause (hi : i.index.isSome = true) : i.len = 0 ↔ i.unsupportedCause.isSome = true := by
  cases i
  case sessionBegin => cases hi
  all_goals simp [Instr.len, Instr.unsupportedCause]

theorem location_of_len_zero (h : i.len = 0) : i.location = none := by
  cases i <;> cases h <;> rfl

/-- Settles O35: the causes are the table's, and an access of length 0 names no location, so that it stores nothing. -/
theorem unsupportedAccess : Obligations.UnsupportedAccess := by
  refine ⟨selectInstr_cause, fun i s hi h hb => ?_⟩
  obtain ⟨r, rf, p, hexec, hlen, hkeep⟩ := exec_access_ready hi h hb
  refine ⟨_, r, hexec, rfl, hlen ▸ len_eq_zero_iff_cause hi, fun h0 => ?_⟩
  obtain ⟨rfl, rfl⟩ := hkeep (location_of_len_zero (hlen.symm.trans h0))
  rfl

end Sys2Proof.Machine

end

/-! PROOFS. What a reset of the block leaves, and the ends of a run that are not normal (70_reset_and_hazards.md). -/

section

namespace Sys2Proof.Machine

variable {s t : State} {r : Request} {l : List Request} {rest : List Turn}

/-- A reset of the block moves the schedule on and is `State.resetBlock` (R160). -/
theorem step_resetBlock (hs : s.schedule = .env .resetBlock :: rest) : step s = .next (s.setSchedule rest).resetBlock :=
  step_env hs

/-- Settles O32: the fields are those of `State.resetBlock`, and EXT_INIT is false. -/
theorem blockResetEffect : Obligations.BlockResetEffect := fun _ _ hs =>
  ⟨_, step_resetBlock hs, rfl, rfl, rfl, rfl, rfl⟩

/-! ### A request that gets no response -/

/-- The block's turn, where the schedule names it, performs the operation its first request selects. -/
theorem step_serve_request (hs : s.schedule = .serve :: rest) (hreq : s.requests = r :: l) :
    step s = exec (r.instr s.ext) (s.setSchedule rest) := by
  simp [step, hs, serve, hreq]

/-- A ready state raises a model fault for a first request with too small a buffer, whatever its index and the mode
(60_exceptions.md R142). -/
theorem exec_request_short (h : Ready s) (hreq : s.requests = r :: l) (hb : ¬ r.bufferOk) (ext : Bool) :
    ∃ f, exec (r.instr ext) s = .next (s.raise f) := by
  cases r with
  | read idx buf =>
    have hsmall : s.rbuf.length < 12 := by rw [rbuf_read hreq]; exact Nat.lt_of_not_le hb
    obtain ⟨-, hindex⟩ := selectInstr_wellFormed_index false ext idx
    exact ⟨_, exec_short h hindex (.inl ⟨selectInstr_primitive false ext idx, hsmall⟩)⟩
  | write idx buf =>
    have hshort : s.wbuf.length < 4 := by rw [wbuf_write hreq]; exact Nat.lt_of_not_le hb
    obtain ⟨-, hindex⟩ := selectInstr_wellFormed_index true ext idx
    exact ⟨_, exec_short h hindex (.inr ⟨selectInstr_primitive true ext idx, hshort⟩)⟩
  | session e => exact absurd trivial hb

/-- With no request left no run issues or answers one. -/
theorem run_no_request {n : Nat} (hreq : s.requests = []) (h : core.run n s = .next t) :
    t.requests = [] ∧ t.responses = s.responses ∧ t.unanswered = s.unanswered := by
  induction n generalizing s with
  | zero => cases h; exact ⟨hreq, rfl, rfl⟩
  | succ n ih =>
    obtain ⟨u, hstep, hrun⟩ := run_succ_next core n s t h
    obtain ⟨hu, hresp, hun⟩ := step_no_request hreq hstep
    obtain ⟨ht, hresp', hun'⟩ := ih hu hrun
    exact ⟨ht, hresp'.trans hresp, hun'.trans hun⟩

/-- A last request left unanswered stays so: no run from there ends normally (R168). -/
theorem run_unanswered_no_normalEnd (n : Nat) (s t : State) (hreq : s.requests = []) (hun : s.unanswered = true)
    (h : core.run n s = .next t) : ¬ NormalEnd t := by
  obtain ⟨-, -, hkept⟩ := run_no_request hreq h
  rintro ⟨-, hanswered, -⟩
  exact absurd ((hkept.trans hun).symm.trans hanswered) (by decide)

/-- A model fault of the last request, then a reset of the block, which clears the fault but not the mark of what is unanswered. -/
theorem run_short_then_reset (h : Ready s) (hreq : s.requests = r :: l) (hb : ¬ r.bufferOk)
    (hs : s.schedule = .serve :: .env .resetBlock :: rest) :
    ∃ f, core.run 2 s = .next ((s.raise f).setSchedule rest).resetBlock := by
  obtain ⟨f, hexec⟩ := exec_request_short (s := s.setSchedule (.env .resetBlock :: rest)) h hreq hb s.ext
  have hfault := (step_serve_request hs hreq).trans hexec
  have hreset := step_resetBlock (s := (s.setSchedule (.env .resetBlock :: rest)).raise f) rfl
  exact ⟨f, (core_run_succ 1 hfault).trans ((run_one core _).trans hreset)⟩

/-- Settles O51: the mark of an unanswered request outlasts the reset of the block and every later step without a request, and a
state that the block's turn leaves as it is keeps its request. -/
theorem unansweredOrHeldIsNoNormalEnd : Obligations.UnansweredOrHeldIsNoNormalEnd := by
  refine ⟨fun s r rest h hreq hb hs => ?_, run_unanswered_no_normalEnd, fun n s hf hc hs hreq => ?_⟩
  · obtain ⟨f, hrun⟩ := run_short_then_reset h hreq hb hs
    have hnone : ((s.raise f).setSchedule rest).resetBlock.requests = [] := congrArg List.tail hreq
    exact ⟨_, hrun, hnone, rfl, rfl, fun n u => run_unanswered_no_normalEnd n _ u hnone rfl⟩
  · exact ⟨s, run_of_step_self core (step_held hf hc hs) n, fun ⟨hnone, _, _⟩ => hreq hnone⟩

end Sys2Proof.Machine

end
